-- ==== Sys2Proof/Word.lean ====
section
/-! DEFINITION. The word types of the machine (00_scope.md R7: REG_WIDTH 8, ADDR_WIDTH 16, data width 8). -/

namespace Sys2Proof

/-- An 8-bit value: a register of the file, a byte on the bus (R7, R9). -/
abbrev Byte := BitVec 8

/-- A 16-bit value: SP, PC, a register pair, a bus address (R7, R9). -/
abbrev Word := BitVec 16

end Sys2Proof
end

