-- ==== Sys2Proof/Machine/Bits.lean ====
section
/-! DEFINITION. The bit-field, sign-extension and byte-order helpers of 00_scope.md R9. -/

namespace Sys2Proof

/-- `hi(w) = w[15:8]` (R9). -/
def hi (w : Word) : Byte := w.extractLsb' 8 8

/-- `lo(w) = w[7:0]` (R9). -/
def lo (w : Word) : Byte := w.extractLsb' 0 8

/-- `h :: l`, h in the high bits (R9). -/
def pairOf (h l : Byte) : Word := h ++ l

/-- `sext_16(v)` (R9). -/
def sext16 (v : Byte) : Word := v.signExtend 16

/-- `zext_16(v)` (R9). -/
def zext16 (v : Byte) : Word := v.setWidth 16

/-- The high-page address `0xFF00 + zext_16(n)` (30_encoding.md R167). -/
def highPage (n : Byte) : Word := 0xFF00#16 + zext16 n

/-- A vector with bit `i` set. -/
def setBit {w : Nat} (v : BitVec w) (i : Nat) : BitVec w := v ||| (1#w <<< i)

/-- A vector with bit `i` cleared. -/
def clearBit {w : Nat} (v : BitVec w) (i : Nat) : BitVec w := v &&& ~~~(1#w <<< i)

end Sys2Proof
end

