-- ==== Sys2Proof/Syntax.lean ====
section
/-! DEFINITION. The syntax of the instruction set: operand names and ONE inductive with one constructor per row of
spec/opcode_table.json (30_encoding.md R168 to R173, R178 to R180). Constructor names follow the table's operands:
a capital letter is a register, `M` stands before a memory operand. -/

namespace Sys2Proof

/-- The seven 8-bit registers a 3-bit field can name, in the field's order (R163); index 6 is the `(HL)` operand. -/
inductive Reg8 where
  | b | c | d | e | h | l | a
deriving DecidableEq, Repr

/-- The pairs of `r16[p]`, in the field's order (R164). -/
inductive Pair where
  | bc | de | hl | sp
deriving DecidableEq, Repr

/-- The pairs of `r16stk[p]`, in the field's order (R164). -/
inductive StkPair where
  | bc | de | hl | af
deriving DecidableEq, Repr

/-- The memory operands of `r16mem[p]`, in the field's order (R164). -/
inductive PairMem where
  | bc | de | hlInc | hlDec
deriving DecidableEq, Repr

/-- The conditions, in the field's order (R165). -/
inductive Cond where
  | nz | z | nc | c
deriving DecidableEq, Repr

/-- `alu[y]`, in the field's order (R170). -/
inductive AluOp where
  | add | adc | sub | sbc | and | xor | or | cp
deriving DecidableEq, Repr

/-- `rot[y]`, in the field's order (R172, R341). -/
inductive RotOp where
  | rlc | rrc | rl | rr | sla | sra | swap | srl
deriving DecidableEq, Repr

/-- The virtual 8-bit operand (R166): seven registers, five memory-indirect modes, three absolute or high-page
modes and the immediate, sixteen variants in all. The operand bytes of `abs`, `high` and `imm` have been fetched. -/
inductive Operand where
  | reg (r : Reg8)
  | indBc | indDe | indHl | indHlInc | indHlDec
  | abs (a : Word) | high (n : Byte) | highC
  | imm (v : Byte)
deriving DecidableEq, Repr

/-- The instructions: one constructor per row of spec/opcode_table.json: first the rows with operand
bytes, then the others, each part in the table's order. `prefixCb` is the row
of the prefix byte with its second byte (R386); it is no instruction of its own (WellFormed.lean). -/
inductive Instr where
  | ldBcD16 (n : Word)
  | ldBD8 (n : Byte)
  | ldMA16Sp (a : Word)
  | ldCD8 (n : Byte)
  | ldDeD16 (n : Word)
  | ldDD8 (n : Byte)
  | jrR8 (e : Byte)
  | ldED8 (n : Byte)
  | jrNzR8 (e : Byte)
  | ldHlD16 (n : Word)
  | ldHD8 (n : Byte)
  | jrZR8 (e : Byte)
  | ldLD8 (n : Byte)
  | jrNcR8 (e : Byte)
  | ldSpD16 (n : Word)
  | ldMHlD8 (n : Byte)
  | jrCR8 (e : Byte)
  | ldAD8 (n : Byte)
  | jpNzA16 (a : Word)
  | jpA16 (a : Word)
  | callNzA16 (a : Word)
  | addAD8 (n : Byte)
  | jpZA16 (a : Word)
  | prefixCb (op2 : Byte)
  | callZA16 (a : Word)
  | callA16 (a : Word)
  | adcAD8 (n : Byte)
  | jpNcA16 (a : Word)
  | callNcA16 (a : Word)
  | subD8 (n : Byte)
  | jpCA16 (a : Word)
  | callCA16 (a : Word)
  | sbcAD8 (n : Byte)
  | ldhMA8A (n : Byte)
  | andD8 (n : Byte)
  | addSpR8 (e : Byte)
  | ldMA16A (a : Word)
  | xorD8 (n : Byte)
  | ldhAMA8 (n : Byte)
  | orD8 (n : Byte)
  | ldHlSpR8 (e : Byte)
  | ldAMA16 (a : Word)
  | cpD8 (n : Byte)
  | nop
  | ldMBcA
  | incBc
  | incB
  | decB
  | rlca
  | addHlBc
  | ldAMBc
  | decBc
  | incC
  | decC
  | rrca
  | stop
  | ldMDeA
  | incDe
  | incD
  | decD
  | rla
  | addHlDe
  | ldAMDe
  | decDe
  | incE
  | decE
  | rra
  | ldMHlIncA
  | incHl
  | incH
  | decH
  | daa
  | addHlHl
  | ldAMHlInc
  | decHl
  | incL
  | decL
  | cpl
  | ldMHlDecA
  | incSp
  | incMHl
  | decMHl
  | scf
  | addHlSp
  | ldAMHlDec
  | decSp
  | incA
  | decA
  | ccf
  | ldBB
  | ldBC
  | ldBD
  | ldBE
  | ldBH
  | ldBL
  | ldBMHl
  | ldBA
  | ldCB
  | ldCC
  | ldCD
  | ldCE
  | ldCH
  | ldCL
  | ldCMHl
  | ldCA
  | ldDB
  | ldDC
  | ldDD
  | ldDE
  | ldDH
  | ldDL
  | ldDMHl
  | ldDA
  | ldEB
  | ldEC
  | ldED
  | ldEE
  | ldEH
  | ldEL
  | ldEMHl
  | ldEA
  | ldHB
  | ldHC
  | ldHD
  | ldHE
  | ldHH
  | ldHL
  | ldHMHl
  | ldHA
  | ldLB
  | ldLC
  | ldLD
  | ldLE
  | ldLH
  | ldLL
  | ldLMHl
  | ldLA
  | ldMHlB
  | ldMHlC
  | ldMHlD
  | ldMHlE
  | ldMHlH
  | ldMHlL
  | halt
  | ldMHlA
  | ldAB
  | ldAC
  | ldAD
  | ldAE
  | ldAH
  | ldAL
  | ldAMHl
  | ldAA
  | addAB
  | addAC
  | addAD
  | addAE
  | addAH
  | addAL
  | addAMHl
  | addAA
  | adcAB
  | adcAC
  | adcAD
  | adcAE
  | adcAH
  | adcAL
  | adcAMHl
  | adcAA
  | subB
  | subC
  | subD
  | subE
  | subH
  | subL
  | subMHl
  | subA
  | sbcAB
  | sbcAC
  | sbcAD
  | sbcAE
  | sbcAH
  | sbcAL
  | sbcAMHl
  | sbcAA
  | andB
  | andC
  | andD
  | andE
  | andH
  | andL
  | andMHl
  | andA
  | xorB
  | xorC
  | xorD
  | xorE
  | xorH
  | xorL
  | xorMHl
  | xorA
  | orB
  | orC
  | orD
  | orE
  | orH
  | orL
  | orMHl
  | orA
  | cpB
  | cpC
  | cpD
  | cpE
  | cpH
  | cpL
  | cpMHl
  | cpA
  | retNz
  | popBc
  | pushBc
  | rst00
  | retZ
  | ret
  | rst08
  | retNc
  | popDe
  | illegalD3
  | pushDe
  | rst10
  | retC
  | reti
  | illegalDB
  | illegalDD
  | rst18
  | popHl
  | ldhMCA
  | illegalE3
  | illegalE4
  | pushHl
  | rst20
  | jpHl
  | illegalEB
  | illegalEC
  | illegalED
  | rst28
  | popAf
  | ldhAMC
  | di
  | illegalF4
  | pushAf
  | rst30
  | ldSpHl
  | ei
  | illegalFC
  | illegalFD
  | rst38
  | rlcB
  | rlcC
  | rlcD
  | rlcE
  | rlcH
  | rlcL
  | rlcMHl
  | rlcA
  | rrcB
  | rrcC
  | rrcD
  | rrcE
  | rrcH
  | rrcL
  | rrcMHl
  | rrcA
  | rlB
  | rlC
  | rlD
  | rlE
  | rlH
  | rlL
  | rlMHl
  | rlA
  | rrB
  | rrC
  | rrD
  | rrE
  | rrH
  | rrL
  | rrMHl
  | rrA
  | slaB
  | slaC
  | slaD
  | slaE
  | slaH
  | slaL
  | slaMHl
  | slaA
  | sraB
  | sraC
  | sraD
  | sraE
  | sraH
  | sraL
  | sraMHl
  | sraA
  | swapB
  | swapC
  | swapD
  | swapE
  | swapH
  | swapL
  | swapMHl
  | swapA
  | srlB
  | srlC
  | srlD
  | srlE
  | srlH
  | srlL
  | srlMHl
  | srlA
  | bit0B
  | bit0C
  | bit0D
  | bit0E
  | bit0H
  | bit0L
  | bit0MHl
  | bit0A
  | bit1B
  | bit1C
  | bit1D
  | bit1E
  | bit1H
  | bit1L
  | bit1MHl
  | bit1A
  | bit2B
  | bit2C
  | bit2D
  | bit2E
  | bit2H
  | bit2L
  | bit2MHl
  | bit2A
  | bit3B
  | bit3C
  | bit3D
  | bit3E
  | bit3H
  | bit3L
  | bit3MHl
  | bit3A
  | bit4B
  | bit4C
  | bit4D
  | bit4E
  | bit4H
  | bit4L
  | bit4MHl
  | bit4A
  | bit5B
  | bit5C
  | bit5D
  | bit5E
  | bit5H
  | bit5L
  | bit5MHl
  | bit5A
  | bit6B
  | bit6C
  | bit6D
  | bit6E
  | bit6H
  | bit6L
  | bit6MHl
  | bit6A
  | bit7B
  | bit7C
  | bit7D
  | bit7E
  | bit7H
  | bit7L
  | bit7MHl
  | bit7A
  | res0B
  | res0C
  | res0D
  | res0E
  | res0H
  | res0L
  | res0MHl
  | res0A
  | res1B
  | res1C
  | res1D
  | res1E
  | res1H
  | res1L
  | res1MHl
  | res1A
  | res2B
  | res2C
  | res2D
  | res2E
  | res2H
  | res2L
  | res2MHl
  | res2A
  | res3B
  | res3C
  | res3D
  | res3E
  | res3H
  | res3L
  | res3MHl
  | res3A
  | res4B
  | res4C
  | res4D
  | res4E
  | res4H
  | res4L
  | res4MHl
  | res4A
  | res5B
  | res5C
  | res5D
  | res5E
  | res5H
  | res5L
  | res5MHl
  | res5A
  | res6B
  | res6C
  | res6D
  | res6E
  | res6H
  | res6L
  | res6MHl
  | res6A
  | res7B
  | res7C
  | res7D
  | res7E
  | res7H
  | res7L
  | res7MHl
  | res7A
  | set0B
  | set0C
  | set0D
  | set0E
  | set0H
  | set0L
  | set0MHl
  | set0A
  | set1B
  | set1C
  | set1D
  | set1E
  | set1H
  | set1L
  | set1MHl
  | set1A
  | set2B
  | set2C
  | set2D
  | set2E
  | set2H
  | set2L
  | set2MHl
  | set2A
  | set3B
  | set3C
  | set3D
  | set3E
  | set3H
  | set3L
  | set3MHl
  | set3A
  | set4B
  | set4C
  | set4D
  | set4E
  | set4H
  | set4L
  | set4MHl
  | set4A
  | set5B
  | set5C
  | set5D
  | set5E
  | set5H
  | set5L
  | set5MHl
  | set5A
  | set6B
  | set6C
  | set6D
  | set6E
  | set6H
  | set6L
  | set6MHl
  | set6A
  | set7B
  | set7C
  | set7D
  | set7E
  | set7H
  | set7L
  | set7MHl
  | set7A
deriving DecidableEq, Repr

end Sys2Proof
end

