-- ==== Sys2Proof/Decode.lean ====
section
/-! DEFINITION. Decoding, total on any bytes and rejecting by name, by the arithmetic of 30_encoding.md R161 and R168 to
R172; after it the encoder, written row by row from the grids R179 and R180. -/

namespace Sys2Proof

/-- `LD rr,d16` (R168, R231) by its fields. -/
def Instr.mkLdPair (p : Pair) (n : Word) : Instr :=
  match p with
  | .bc => .ldBcD16 n
  | .de => .ldDeD16 n
  | .hl => .ldHlD16 n
  | .sp => .ldSpD16 n

/-- `LD r16mem[p],A` (R168) by its fields. -/
def Instr.mkStA (m : PairMem) : Instr :=
  match m with
  | .bc => .ldMBcA
  | .de => .ldMDeA
  | .hlInc => .ldMHlIncA
  | .hlDec => .ldMHlDecA

/-- `INC rr` (R168, R302) by its fields. -/
def Instr.mkIncPair (p : Pair) : Instr :=
  match p with
  | .bc => .incBc
  | .de => .incDe
  | .hl => .incHl
  | .sp => .incSp

/-- `INC r` (R168, R279) by its fields. -/
def Instr.mkInc (reg : Reg8) : Instr :=
  match reg with
  | .b => .incB
  | .c => .incC
  | .d => .incD
  | .e => .incE
  | .h => .incH
  | .l => .incL
  | .a => .incA

/-- `DEC r` (R168, R281) by its fields. -/
def Instr.mkDec (reg : Reg8) : Instr :=
  match reg with
  | .b => .decB
  | .c => .decC
  | .d => .decD
  | .e => .decE
  | .h => .decH
  | .l => .decL
  | .a => .decA

/-- `LD r,d8` (R168, R202) by its fields. -/
def Instr.mkLdImm (dst : Reg8) (n : Byte) : Instr :=
  match dst with
  | .b => .ldBD8 n
  | .c => .ldCD8 n
  | .d => .ldDD8 n
  | .e => .ldED8 n
  | .h => .ldHD8 n
  | .l => .ldLD8 n
  | .a => .ldAD8 n

/-- `ADD HL,rr` (R168, R301) by its fields. -/
def Instr.mkAddHl (p : Pair) : Instr :=
  match p with
  | .bc => .addHlBc
  | .de => .addHlDe
  | .hl => .addHlHl
  | .sp => .addHlSp

/-- `LD A,r16mem[p]` (R168) by its fields. -/
def Instr.mkLdA (m : PairMem) : Instr :=
  match m with
  | .bc => .ldAMBc
  | .de => .ldAMDe
  | .hlInc => .ldAMHlInc
  | .hlDec => .ldAMHlDec

/-- `DEC rr` (R168, R303) by its fields. -/
def Instr.mkDecPair (p : Pair) : Instr :=
  match p with
  | .bc => .decBc
  | .de => .decDe
  | .hl => .decHl
  | .sp => .decSp

/-- `JR cc,r8` (R168, R325) by its fields. -/
def Instr.mkJrCc (cc : Cond) (e : Byte) : Instr :=
  match cc with
  | .nz => .jrNzR8 e
  | .z => .jrZR8 e
  | .nc => .jrNcR8 e
  | .c => .jrCR8 e

/-- `LD r,r'` (R169, R201) by its fields. -/
def Instr.mkLdRR (dst : Reg8) (src : Reg8) : Instr :=
  match dst with
  | .b =>
    match src with
    | .b => .ldBB | .c => .ldBC | .d => .ldBD | .e => .ldBE | .h => .ldBH | .l => .ldBL | .a => .ldBA
  | .c =>
    match src with
    | .b => .ldCB | .c => .ldCC | .d => .ldCD | .e => .ldCE | .h => .ldCH | .l => .ldCL | .a => .ldCA
  | .d =>
    match src with
    | .b => .ldDB | .c => .ldDC | .d => .ldDD | .e => .ldDE | .h => .ldDH | .l => .ldDL | .a => .ldDA
  | .e =>
    match src with
    | .b => .ldEB | .c => .ldEC | .d => .ldED | .e => .ldEE | .h => .ldEH | .l => .ldEL | .a => .ldEA
  | .h =>
    match src with
    | .b => .ldHB | .c => .ldHC | .d => .ldHD | .e => .ldHE | .h => .ldHH | .l => .ldHL | .a => .ldHA
  | .l =>
    match src with
    | .b => .ldLB | .c => .ldLC | .d => .ldLD | .e => .ldLE | .h => .ldLH | .l => .ldLL | .a => .ldLA
  | .a =>
    match src with
    | .b => .ldAB | .c => .ldAC | .d => .ldAD | .e => .ldAE | .h => .ldAH | .l => .ldAL | .a => .ldAA

/-- `LD r,(HL)` (R169, R203) by its fields. -/
def Instr.mkLdM (dst : Reg8) : Instr :=
  match dst with
  | .b => .ldBMHl
  | .c => .ldCMHl
  | .d => .ldDMHl
  | .e => .ldEMHl
  | .h => .ldHMHl
  | .l => .ldLMHl
  | .a => .ldAMHl

/-- `LD (HL),r` (R169, R204) by its fields. -/
def Instr.mkLdMR (src : Reg8) : Instr :=
  match src with
  | .b => .ldMHlB
  | .c => .ldMHlC
  | .d => .ldMHlD
  | .e => .ldMHlE
  | .h => .ldMHlH
  | .l => .ldMHlL
  | .a => .ldMHlA

/-- `alu[y] A,r` (R170) by its fields. -/
def Instr.mkAluR (op : AluOp) (src : Reg8) : Instr :=
  match op with
  | .add =>
    match src with
    | .b => .addAB | .c => .addAC | .d => .addAD | .e => .addAE | .h => .addAH | .l => .addAL | .a => .addAA
  | .adc =>
    match src with
    | .b => .adcAB | .c => .adcAC | .d => .adcAD | .e => .adcAE | .h => .adcAH | .l => .adcAL | .a => .adcAA
  | .sub =>
    match src with
    | .b => .subB | .c => .subC | .d => .subD | .e => .subE | .h => .subH | .l => .subL | .a => .subA
  | .sbc =>
    match src with
    | .b => .sbcAB | .c => .sbcAC | .d => .sbcAD | .e => .sbcAE | .h => .sbcAH | .l => .sbcAL | .a => .sbcAA
  | .and =>
    match src with
    | .b => .andB | .c => .andC | .d => .andD | .e => .andE | .h => .andH | .l => .andL | .a => .andA
  | .xor =>
    match src with
    | .b => .xorB | .c => .xorC | .d => .xorD | .e => .xorE | .h => .xorH | .l => .xorL | .a => .xorA
  | .or =>
    match src with
    | .b => .orB | .c => .orC | .d => .orD | .e => .orE | .h => .orH | .l => .orL | .a => .orA
  | .cp =>
    match src with
    | .b => .cpB | .c => .cpC | .d => .cpD | .e => .cpE | .h => .cpH | .l => .cpL | .a => .cpA

/-- `alu[y] A,(HL)` (R170) by its fields. -/
def Instr.mkAluM (op : AluOp) : Instr :=
  match op with
  | .add => .addAMHl
  | .adc => .adcAMHl
  | .sub => .subMHl
  | .sbc => .sbcAMHl
  | .and => .andMHl
  | .xor => .xorMHl
  | .or => .orMHl
  | .cp => .cpMHl

/-- `RET cc` (R171, R329) by its fields. -/
def Instr.mkRetCc (cc : Cond) : Instr :=
  match cc with
  | .nz => .retNz
  | .z => .retZ
  | .nc => .retNc
  | .c => .retC

/-- `POP rr`, `POP AF` (R171, R237, R238) by its fields. -/
def Instr.mkPop (p : StkPair) : Instr :=
  match p with
  | .bc => .popBc
  | .de => .popDe
  | .hl => .popHl
  | .af => .popAf

/-- `JP cc,a16` (R171, R322) by its fields. -/
def Instr.mkJpCc (cc : Cond) (a : Word) : Instr :=
  match cc with
  | .nz => .jpNzA16 a
  | .z => .jpZA16 a
  | .nc => .jpNcA16 a
  | .c => .jpCA16 a

/-- `CALL cc,a16` (R171, R327) by its fields. -/
def Instr.mkCallCc (cc : Cond) (a : Word) : Instr :=
  match cc with
  | .nz => .callNzA16 a
  | .z => .callZA16 a
  | .nc => .callNcA16 a
  | .c => .callCA16 a

/-- `PUSH rr`, `PUSH AF` (R171, R235, R236) by its fields. -/
def Instr.mkPush (p : StkPair) : Instr :=
  match p with
  | .bc => .pushBc
  | .de => .pushDe
  | .hl => .pushHl
  | .af => .pushAf

/-- `alu[y] A,d8` (R171) by its fields. -/
def Instr.mkAluImm (op : AluOp) (n : Byte) : Instr :=
  match op with
  | .add => .addAD8 n
  | .adc => .adcAD8 n
  | .sub => .subD8 n
  | .sbc => .sbcAD8 n
  | .and => .andD8 n
  | .xor => .xorD8 n
  | .or => .orD8 n
  | .cp => .cpD8 n

/-- `RST y*8` (R171, R331) by its fields. -/
def Instr.mkRst (t : Fin 8) : Instr :=
  match t with
  | 0 => .rst00
  | 1 => .rst08
  | 2 => .rst10
  | 3 => .rst18
  | 4 => .rst20
  | 5 => .rst28
  | 6 => .rst30
  | 7 => .rst38

/-- `rot[y] r` (R172) by its fields. -/
def Instr.mkRotR (op : RotOp) (src : Reg8) : Instr :=
  match op with
  | .rlc =>
    match src with
    | .b => .rlcB | .c => .rlcC | .d => .rlcD | .e => .rlcE | .h => .rlcH | .l => .rlcL | .a => .rlcA
  | .rrc =>
    match src with
    | .b => .rrcB | .c => .rrcC | .d => .rrcD | .e => .rrcE | .h => .rrcH | .l => .rrcL | .a => .rrcA
  | .rl =>
    match src with
    | .b => .rlB | .c => .rlC | .d => .rlD | .e => .rlE | .h => .rlH | .l => .rlL | .a => .rlA
  | .rr =>
    match src with
    | .b => .rrB | .c => .rrC | .d => .rrD | .e => .rrE | .h => .rrH | .l => .rrL | .a => .rrA
  | .sla =>
    match src with
    | .b => .slaB | .c => .slaC | .d => .slaD | .e => .slaE | .h => .slaH | .l => .slaL | .a => .slaA
  | .sra =>
    match src with
    | .b => .sraB | .c => .sraC | .d => .sraD | .e => .sraE | .h => .sraH | .l => .sraL | .a => .sraA
  | .swap =>
    match src with
    | .b => .swapB | .c => .swapC | .d => .swapD | .e => .swapE | .h => .swapH | .l => .swapL | .a => .swapA
  | .srl =>
    match src with
    | .b => .srlB | .c => .srlC | .d => .srlD | .e => .srlE | .h => .srlH | .l => .srlL | .a => .srlA

/-- `rot[y] (HL)` (R172) by its fields. -/
def Instr.mkRotM (op : RotOp) : Instr :=
  match op with
  | .rlc => .rlcMHl
  | .rrc => .rrcMHl
  | .rl => .rlMHl
  | .rr => .rrMHl
  | .sla => .slaMHl
  | .sra => .sraMHl
  | .swap => .swapMHl
  | .srl => .srlMHl

/-- `BIT b,r` (R172) by its fields. -/
def Instr.mkBitR (b : Fin 8) (src : Reg8) : Instr :=
  match b with
  | 0 =>
    match src with
    | .b => .bit0B | .c => .bit0C | .d => .bit0D | .e => .bit0E | .h => .bit0H | .l => .bit0L | .a => .bit0A
  | 1 =>
    match src with
    | .b => .bit1B | .c => .bit1C | .d => .bit1D | .e => .bit1E | .h => .bit1H | .l => .bit1L | .a => .bit1A
  | 2 =>
    match src with
    | .b => .bit2B | .c => .bit2C | .d => .bit2D | .e => .bit2E | .h => .bit2H | .l => .bit2L | .a => .bit2A
  | 3 =>
    match src with
    | .b => .bit3B | .c => .bit3C | .d => .bit3D | .e => .bit3E | .h => .bit3H | .l => .bit3L | .a => .bit3A
  | 4 =>
    match src with
    | .b => .bit4B | .c => .bit4C | .d => .bit4D | .e => .bit4E | .h => .bit4H | .l => .bit4L | .a => .bit4A
  | 5 =>
    match src with
    | .b => .bit5B | .c => .bit5C | .d => .bit5D | .e => .bit5E | .h => .bit5H | .l => .bit5L | .a => .bit5A
  | 6 =>
    match src with
    | .b => .bit6B | .c => .bit6C | .d => .bit6D | .e => .bit6E | .h => .bit6H | .l => .bit6L | .a => .bit6A
  | 7 =>
    match src with
    | .b => .bit7B | .c => .bit7C | .d => .bit7D | .e => .bit7E | .h => .bit7H | .l => .bit7L | .a => .bit7A

/-- `BIT b,(HL)` (R172) by its fields. -/
def Instr.mkBitM (b : Fin 8) : Instr :=
  match b with
  | 0 => .bit0MHl
  | 1 => .bit1MHl
  | 2 => .bit2MHl
  | 3 => .bit3MHl
  | 4 => .bit4MHl
  | 5 => .bit5MHl
  | 6 => .bit6MHl
  | 7 => .bit7MHl

/-- `RES b,r` (R172) by its fields. -/
def Instr.mkResR (b : Fin 8) (src : Reg8) : Instr :=
  match b with
  | 0 =>
    match src with
    | .b => .res0B | .c => .res0C | .d => .res0D | .e => .res0E | .h => .res0H | .l => .res0L | .a => .res0A
  | 1 =>
    match src with
    | .b => .res1B | .c => .res1C | .d => .res1D | .e => .res1E | .h => .res1H | .l => .res1L | .a => .res1A
  | 2 =>
    match src with
    | .b => .res2B | .c => .res2C | .d => .res2D | .e => .res2E | .h => .res2H | .l => .res2L | .a => .res2A
  | 3 =>
    match src with
    | .b => .res3B | .c => .res3C | .d => .res3D | .e => .res3E | .h => .res3H | .l => .res3L | .a => .res3A
  | 4 =>
    match src with
    | .b => .res4B | .c => .res4C | .d => .res4D | .e => .res4E | .h => .res4H | .l => .res4L | .a => .res4A
  | 5 =>
    match src with
    | .b => .res5B | .c => .res5C | .d => .res5D | .e => .res5E | .h => .res5H | .l => .res5L | .a => .res5A
  | 6 =>
    match src with
    | .b => .res6B | .c => .res6C | .d => .res6D | .e => .res6E | .h => .res6H | .l => .res6L | .a => .res6A
  | 7 =>
    match src with
    | .b => .res7B | .c => .res7C | .d => .res7D | .e => .res7E | .h => .res7H | .l => .res7L | .a => .res7A

/-- `RES b,(HL)` (R172) by its fields. -/
def Instr.mkResM (b : Fin 8) : Instr :=
  match b with
  | 0 => .res0MHl
  | 1 => .res1MHl
  | 2 => .res2MHl
  | 3 => .res3MHl
  | 4 => .res4MHl
  | 5 => .res5MHl
  | 6 => .res6MHl
  | 7 => .res7MHl

/-- `SET b,r` (R172) by its fields. -/
def Instr.mkSetR (b : Fin 8) (src : Reg8) : Instr :=
  match b with
  | 0 =>
    match src with
    | .b => .set0B | .c => .set0C | .d => .set0D | .e => .set0E | .h => .set0H | .l => .set0L | .a => .set0A
  | 1 =>
    match src with
    | .b => .set1B | .c => .set1C | .d => .set1D | .e => .set1E | .h => .set1H | .l => .set1L | .a => .set1A
  | 2 =>
    match src with
    | .b => .set2B | .c => .set2C | .d => .set2D | .e => .set2E | .h => .set2H | .l => .set2L | .a => .set2A
  | 3 =>
    match src with
    | .b => .set3B | .c => .set3C | .d => .set3D | .e => .set3E | .h => .set3H | .l => .set3L | .a => .set3A
  | 4 =>
    match src with
    | .b => .set4B | .c => .set4C | .d => .set4D | .e => .set4E | .h => .set4H | .l => .set4L | .a => .set4A
  | 5 =>
    match src with
    | .b => .set5B | .c => .set5C | .d => .set5D | .e => .set5E | .h => .set5H | .l => .set5L | .a => .set5A
  | 6 =>
    match src with
    | .b => .set6B | .c => .set6C | .d => .set6D | .e => .set6E | .h => .set6H | .l => .set6L | .a => .set6A
  | 7 =>
    match src with
    | .b => .set7B | .c => .set7C | .d => .set7D | .e => .set7E | .h => .set7H | .l => .set7L | .a => .set7A

/-- `SET b,(HL)` (R172) by its fields. -/
def Instr.mkSetM (b : Fin 8) : Instr :=
  match b with
  | 0 => .set0MHl
  | 1 => .set1MHl
  | 2 => .set2MHl
  | 3 => .set3MHl
  | 4 => .set4MHl
  | 5 => .set5MHl
  | 6 => .set6MHl
  | 7 => .set7MHl

/-- The register of a 3-bit field, or `none` for index 6, the `(HL)` operand (R163). -/
def Reg8.ofField (i : Nat) : Option Reg8 :=
  match i with
  | 0 => some .b | 1 => some .c | 2 => some .d | 3 => some .e | 4 => some .h | 5 => some .l | 6 => none | _ => some .a

/-- `r16[p]` (R164). -/
def Pair.ofField (p : Nat) : Pair :=
  match p with
  | 0 => .bc | 1 => .de | 2 => .hl | _ => .sp

/-- `r16stk[p]` (R164). -/
def StkPair.ofField (p : Nat) : StkPair :=
  match p with
  | 0 => .bc | 1 => .de | 2 => .hl | _ => .af

/-- `r16mem[p]` (R164). -/
def PairMem.ofField (p : Nat) : PairMem :=
  match p with
  | 0 => .bc | 1 => .de | 2 => .hlInc | _ => .hlDec

/-- The condition field (R165). -/
def Cond.ofField (i : Nat) : Cond :=
  match i with
  | 0 => .nz | 1 => .z | 2 => .nc | _ => .c

/-- `alu[y]` (R170). -/
def AluOp.ofField (i : Nat) : AluOp :=
  match i with
  | 0 => .add | 1 => .adc | 2 => .sub | 3 => .sbc | 4 => .and | 5 => .xor | 6 => .or | _ => .cp

/-- `rot[y]` (R172). -/
def RotOp.ofField (i : Nat) : RotOp :=
  match i with
  | 0 => .rlc | 1 => .rrc | 2 => .rl | 3 => .rr | 4 => .sla | 5 => .sra | 6 => .swap | _ => .srl

/-- Field x of an opcode byte, bits 7:6 (R161). -/
def fieldX (op : Byte) : Nat := op.toNat / 64

/-- Field y of an opcode byte, bits 5:3 (R161). -/
def fieldY (op : Byte) : Nat := op.toNat / 8 % 8

/-- Field z of an opcode byte, bits 2:0 (R161). -/
def fieldZ (op : Byte) : Nat := op.toNat % 8

/-- A field used as the number of a bit or of a restart target. -/
def octal (i : Nat) : Fin 8 := ⟨i % 8, Nat.mod_lt _ (by decide)⟩

/-- The extended instruction of a second byte (R172, R180): all 256 are assigned. -/
def decodeExtended (op : Byte) : Instr :=
  match fieldX op, Reg8.ofField (fieldZ op) with
  | 0, some r => .mkRotR (.ofField (fieldY op)) r
  | 0, none => .mkRotM (.ofField (fieldY op))
  | 1, some r => .mkBitR (octal (fieldY op)) r
  | 1, none => .mkBitM (octal (fieldY op))
  | 2, some r => .mkResR (octal (fieldY op)) r
  | 2, none => .mkResM (octal (fieldY op))
  | _, some r => .mkSetR (octal (fieldY op)) r
  | _, none => .mkSetM (octal (fieldY op))

/-- Group x = 0 (R168); `n` and `m` are the operand bytes after the opcode, as far as it has them. -/
def decodeGroup0 (y z : Nat) (n m : Byte) : Instr :=
  match z with
  | 0 =>
    match y with
    | 0 => .nop
    | 1 => .ldMA16Sp (pairOf m n)
    | 2 => .stop
    | 3 => .jrR8 n
    | _ => .mkJrCc (.ofField (y - 4)) n
  | 1 => if y % 2 = 0 then .mkLdPair (.ofField (y / 2)) (pairOf m n) else .mkAddHl (.ofField (y / 2))
  | 2 => if y % 2 = 0 then .mkStA (.ofField (y / 2)) else .mkLdA (.ofField (y / 2))
  | 3 => if y % 2 = 0 then .mkIncPair (.ofField (y / 2)) else .mkDecPair (.ofField (y / 2))
  | 4 =>
    match Reg8.ofField y with
    | some r => .mkInc r
    | none => .incMHl
  | 5 =>
    match Reg8.ofField y with
    | some r => .mkDec r
    | none => .decMHl
  | 6 =>
    match Reg8.ofField y with
    | some r => .mkLdImm r n
    | none => .ldMHlD8 n
  | _ =>
    match y with
    | 0 => .rlca | 1 => .rrca | 2 => .rla | 3 => .rra | 4 => .daa | 5 => .cpl | 6 => .scf | _ => .ccf

/-- Group x = 1 (R169): the register loads, and `HALT` in the slot y = z = 6. -/
def decodeGroup1 (y z : Nat) : Instr :=
  match Reg8.ofField y, Reg8.ofField z with
  | some dst, some src => .mkLdRR dst src
  | some dst, none => .mkLdM dst
  | none, some r => .mkLdMR r
  | none, none => .halt

/-- Group x = 2 (R170). -/
def decodeGroup2 (y z : Nat) : Instr :=
  match Reg8.ofField z with
  | some r => .mkAluR (.ofField y) r
  | none => .mkAluM (.ofField y)

/-- Group x = 3 (R171), with the eleven unassigned bytes in their slots (R173). -/
def decodeGroup3 (y z : Nat) (n m : Byte) : Instr :=
  match z with
  | 0 =>
    match y with
    | 4 => .ldhMA8A n | 5 => .addSpR8 n | 6 => .ldhAMA8 n | 7 => .ldHlSpR8 n
    | _ => .mkRetCc (.ofField y)
  | 1 =>
    match y with
    | 1 => .ret | 3 => .reti | 5 => .jpHl | 7 => .ldSpHl
    | _ => .mkPop (.ofField (y / 2))
  | 2 =>
    match y with
    | 4 => .ldhMCA | 5 => .ldMA16A (pairOf m n) | 6 => .ldhAMC | 7 => .ldAMA16 (pairOf m n)
    | _ => .mkJpCc (.ofField y) (pairOf m n)
  | 3 =>
    match y with
    | 0 => .jpA16 (pairOf m n)
    | 1 => decodeExtended n
    | 2 => .illegalD3 | 3 => .illegalDB | 4 => .illegalE3 | 5 => .illegalEB
    | 6 => .di
    | _ => .ei
  | 4 =>
    match y with
    | 4 => .illegalE4 | 5 => .illegalEC | 6 => .illegalF4 | 7 => .illegalFC
    | _ => .mkCallCc (.ofField y) (pairOf m n)
  | 5 =>
    match y with
    | 1 => .callA16 (pairOf m n)
    | 3 => .illegalDD | 5 => .illegalED | 7 => .illegalFD
    | _ => .mkPush (.ofField (y / 2))
  | 6 => .mkAluImm (.ofField y) n
  | _ => .mkRst (octal y)

/-- The instruction of a first byte and the bytes that follow it (R168 to R172). -/
def decodeOp (op n m : Byte) : Instr :=
  match fieldX op with
  | 0 => decodeGroup0 (fieldY op) (fieldZ op) n m
  | 1 => decodeGroup1 (fieldY op) (fieldZ op)
  | 2 => decodeGroup2 (fieldY op) (fieldZ op)
  | _ => decodeGroup3 (fieldY op) (fieldZ op) n m

/-- The first bytes of the three-byte instructions (R175). -/
def threeByteOps : List Byte :=
  [0x01#8, 0x11#8, 0x21#8, 0x31#8, 0x08#8, 0xC2#8, 0xC3#8, 0xC4#8, 0xCA#8, 0xCC#8, 0xCD#8,
   0xD2#8, 0xD4#8, 0xDA#8, 0xDC#8, 0xEA#8, 0xFA#8]

/-- The first bytes of the two-byte instructions, `STOP` and the prefix among them (R175). -/
def twoByteOps : List Byte :=
  [0x06#8, 0x0E#8, 0x16#8, 0x1E#8, 0x26#8, 0x2E#8, 0x36#8, 0x3E#8, 0x10#8, 0x18#8, 0x20#8, 0x28#8, 0x30#8, 0x38#8]
  ++ [0xC6#8, 0xCE#8, 0xD6#8, 0xDE#8, 0xE6#8, 0xEE#8, 0xF6#8, 0xFE#8, 0xE0#8, 0xF0#8, 0xE8#8, 0xF8#8, 0xCB#8]

/-- The length of an instruction from its first byte (R175). -/
def instrLength (op : Byte) : Nat :=
  if threeByteOps.contains op then 3 else if twoByteOps.contains op then 2 else 1

/-- How many bytes the machine fetches: all of the instruction, but of `STOP` its first byte only (R383, R586). -/
def fetchedLength (op : Byte) : Nat := if op = 0x10#8 then 1 else instrLength op

/-- Why bytes do not decode: they end before the instruction does. Every first byte and every second byte after the
prefix is some row's, so there is no other reason. -/
inductive DecodeError where
  | noBytes
  | missingOperand (op : Byte)
deriving DecidableEq, Repr

/-- Decoding: the instruction at the head of the bytes and the bytes after it. -/
def decode (bs : List Byte) : Except DecodeError (Instr × List Byte) :=
  match bs with
  | [] => .error .noBytes
  | op :: rest =>
    match fetchedLength op, rest with
    | 1, rest => .ok (decodeOp op 0#8 0#8, rest)
    | 2, n :: rest => .ok (decodeOp op n 0#8, rest)
    | 3, n :: m :: rest => .ok (decodeOp op n m, rest)
    | _, _ => .error (.missingOperand op)

/-- The bytes of an instruction, row by row from the grids R179 and R180 (an operand word low byte first, R140).
Of `STOP` it gives the one byte the machine fetches (R383; log entry 8); of `prefixCb op2` the bytes of the row. -/
def encode (i : Instr) : List Byte :=
  match i with
  | .nop => [0x00#8]
  | .ldBcD16 n => [0x01#8, lo n, hi n]
  | .ldMBcA => [0x02#8]
  | .incBc => [0x03#8]
  | .incB => [0x04#8]
  | .decB => [0x05#8]
  | .ldBD8 n => [0x06#8, n]
  | .rlca => [0x07#8]
  | .ldMA16Sp a => [0x08#8, lo a, hi a]
  | .addHlBc => [0x09#8]
  | .ldAMBc => [0x0A#8]
  | .decBc => [0x0B#8]
  | .incC => [0x0C#8]
  | .decC => [0x0D#8]
  | .ldCD8 n => [0x0E#8, n]
  | .rrca => [0x0F#8]
  | .stop => [0x10#8]
  | .ldDeD16 n => [0x11#8, lo n, hi n]
  | .ldMDeA => [0x12#8]
  | .incDe => [0x13#8]
  | .incD => [0x14#8]
  | .decD => [0x15#8]
  | .ldDD8 n => [0x16#8, n]
  | .rla => [0x17#8]
  | .jrR8 e => [0x18#8, e]
  | .addHlDe => [0x19#8]
  | .ldAMDe => [0x1A#8]
  | .decDe => [0x1B#8]
  | .incE => [0x1C#8]
  | .decE => [0x1D#8]
  | .ldED8 n => [0x1E#8, n]
  | .rra => [0x1F#8]
  | .jrNzR8 e => [0x20#8, e]
  | .ldHlD16 n => [0x21#8, lo n, hi n]
  | .ldMHlIncA => [0x22#8]
  | .incHl => [0x23#8]
  | .incH => [0x24#8]
  | .decH => [0x25#8]
  | .ldHD8 n => [0x26#8, n]
  | .daa => [0x27#8]
  | .jrZR8 e => [0x28#8, e]
  | .addHlHl => [0x29#8]
  | .ldAMHlInc => [0x2A#8]
  | .decHl => [0x2B#8]
  | .incL => [0x2C#8]
  | .decL => [0x2D#8]
  | .ldLD8 n => [0x2E#8, n]
  | .cpl => [0x2F#8]
  | .jrNcR8 e => [0x30#8, e]
  | .ldSpD16 n => [0x31#8, lo n, hi n]
  | .ldMHlDecA => [0x32#8]
  | .incSp => [0x33#8]
  | .incMHl => [0x34#8]
  | .decMHl => [0x35#8]
  | .ldMHlD8 n => [0x36#8, n]
  | .scf => [0x37#8]
  | .jrCR8 e => [0x38#8, e]
  | .addHlSp => [0x39#8]
  | .ldAMHlDec => [0x3A#8]
  | .decSp => [0x3B#8]
  | .incA => [0x3C#8]
  | .decA => [0x3D#8]
  | .ldAD8 n => [0x3E#8, n]
  | .ccf => [0x3F#8]
  | .ldBB => [0x40#8]
  | .ldBC => [0x41#8]
  | .ldBD => [0x42#8]
  | .ldBE => [0x43#8]
  | .ldBH => [0x44#8]
  | .ldBL => [0x45#8]
  | .ldBMHl => [0x46#8]
  | .ldBA => [0x47#8]
  | .ldCB => [0x48#8]
  | .ldCC => [0x49#8]
  | .ldCD => [0x4A#8]
  | .ldCE => [0x4B#8]
  | .ldCH => [0x4C#8]
  | .ldCL => [0x4D#8]
  | .ldCMHl => [0x4E#8]
  | .ldCA => [0x4F#8]
  | .ldDB => [0x50#8]
  | .ldDC => [0x51#8]
  | .ldDD => [0x52#8]
  | .ldDE => [0x53#8]
  | .ldDH => [0x54#8]
  | .ldDL => [0x55#8]
  | .ldDMHl => [0x56#8]
  | .ldDA => [0x57#8]
  | .ldEB => [0x58#8]
  | .ldEC => [0x59#8]
  | .ldED => [0x5A#8]
  | .ldEE => [0x5B#8]
  | .ldEH => [0x5C#8]
  | .ldEL => [0x5D#8]
  | .ldEMHl => [0x5E#8]
  | .ldEA => [0x5F#8]
  | .ldHB => [0x60#8]
  | .ldHC => [0x61#8]
  | .ldHD => [0x62#8]
  | .ldHE => [0x63#8]
  | .ldHH => [0x64#8]
  | .ldHL => [0x65#8]
  | .ldHMHl => [0x66#8]
  | .ldHA => [0x67#8]
  | .ldLB => [0x68#8]
  | .ldLC => [0x69#8]
  | .ldLD => [0x6A#8]
  | .ldLE => [0x6B#8]
  | .ldLH => [0x6C#8]
  | .ldLL => [0x6D#8]
  | .ldLMHl => [0x6E#8]
  | .ldLA => [0x6F#8]
  | .ldMHlB => [0x70#8]
  | .ldMHlC => [0x71#8]
  | .ldMHlD => [0x72#8]
  | .ldMHlE => [0x73#8]
  | .ldMHlH => [0x74#8]
  | .ldMHlL => [0x75#8]
  | .halt => [0x76#8]
  | .ldMHlA => [0x77#8]
  | .ldAB => [0x78#8]
  | .ldAC => [0x79#8]
  | .ldAD => [0x7A#8]
  | .ldAE => [0x7B#8]
  | .ldAH => [0x7C#8]
  | .ldAL => [0x7D#8]
  | .ldAMHl => [0x7E#8]
  | .ldAA => [0x7F#8]
  | .addAB => [0x80#8]
  | .addAC => [0x81#8]
  | .addAD => [0x82#8]
  | .addAE => [0x83#8]
  | .addAH => [0x84#8]
  | .addAL => [0x85#8]
  | .addAMHl => [0x86#8]
  | .addAA => [0x87#8]
  | .adcAB => [0x88#8]
  | .adcAC => [0x89#8]
  | .adcAD => [0x8A#8]
  | .adcAE => [0x8B#8]
  | .adcAH => [0x8C#8]
  | .adcAL => [0x8D#8]
  | .adcAMHl => [0x8E#8]
  | .adcAA => [0x8F#8]
  | .subB => [0x90#8]
  | .subC => [0x91#8]
  | .subD => [0x92#8]
  | .subE => [0x93#8]
  | .subH => [0x94#8]
  | .subL => [0x95#8]
  | .subMHl => [0x96#8]
  | .subA => [0x97#8]
  | .sbcAB => [0x98#8]
  | .sbcAC => [0x99#8]
  | .sbcAD => [0x9A#8]
  | .sbcAE => [0x9B#8]
  | .sbcAH => [0x9C#8]
  | .sbcAL => [0x9D#8]
  | .sbcAMHl => [0x9E#8]
  | .sbcAA => [0x9F#8]
  | .andB => [0xA0#8]
  | .andC => [0xA1#8]
  | .andD => [0xA2#8]
  | .andE => [0xA3#8]
  | .andH => [0xA4#8]
  | .andL => [0xA5#8]
  | .andMHl => [0xA6#8]
  | .andA => [0xA7#8]
  | .xorB => [0xA8#8]
  | .xorC => [0xA9#8]
  | .xorD => [0xAA#8]
  | .xorE => [0xAB#8]
  | .xorH => [0xAC#8]
  | .xorL => [0xAD#8]
  | .xorMHl => [0xAE#8]
  | .xorA => [0xAF#8]
  | .orB => [0xB0#8]
  | .orC => [0xB1#8]
  | .orD => [0xB2#8]
  | .orE => [0xB3#8]
  | .orH => [0xB4#8]
  | .orL => [0xB5#8]
  | .orMHl => [0xB6#8]
  | .orA => [0xB7#8]
  | .cpB => [0xB8#8]
  | .cpC => [0xB9#8]
  | .cpD => [0xBA#8]
  | .cpE => [0xBB#8]
  | .cpH => [0xBC#8]
  | .cpL => [0xBD#8]
  | .cpMHl => [0xBE#8]
  | .cpA => [0xBF#8]
  | .retNz => [0xC0#8]
  | .popBc => [0xC1#8]
  | .jpNzA16 a => [0xC2#8, lo a, hi a]
  | .jpA16 a => [0xC3#8, lo a, hi a]
  | .callNzA16 a => [0xC4#8, lo a, hi a]
  | .pushBc => [0xC5#8]
  | .addAD8 n => [0xC6#8, n]
  | .rst00 => [0xC7#8]
  | .retZ => [0xC8#8]
  | .ret => [0xC9#8]
  | .jpZA16 a => [0xCA#8, lo a, hi a]
  | .prefixCb op2 => [0xCB#8, op2]
  | .callZA16 a => [0xCC#8, lo a, hi a]
  | .callA16 a => [0xCD#8, lo a, hi a]
  | .adcAD8 n => [0xCE#8, n]
  | .rst08 => [0xCF#8]
  | .retNc => [0xD0#8]
  | .popDe => [0xD1#8]
  | .jpNcA16 a => [0xD2#8, lo a, hi a]
  | .illegalD3 => [0xD3#8]
  | .callNcA16 a => [0xD4#8, lo a, hi a]
  | .pushDe => [0xD5#8]
  | .subD8 n => [0xD6#8, n]
  | .rst10 => [0xD7#8]
  | .retC => [0xD8#8]
  | .reti => [0xD9#8]
  | .jpCA16 a => [0xDA#8, lo a, hi a]
  | .illegalDB => [0xDB#8]
  | .callCA16 a => [0xDC#8, lo a, hi a]
  | .illegalDD => [0xDD#8]
  | .sbcAD8 n => [0xDE#8, n]
  | .rst18 => [0xDF#8]
  | .ldhMA8A n => [0xE0#8, n]
  | .popHl => [0xE1#8]
  | .ldhMCA => [0xE2#8]
  | .illegalE3 => [0xE3#8]
  | .illegalE4 => [0xE4#8]
  | .pushHl => [0xE5#8]
  | .andD8 n => [0xE6#8, n]
  | .rst20 => [0xE7#8]
  | .addSpR8 e => [0xE8#8, e]
  | .jpHl => [0xE9#8]
  | .ldMA16A a => [0xEA#8, lo a, hi a]
  | .illegalEB => [0xEB#8]
  | .illegalEC => [0xEC#8]
  | .illegalED => [0xED#8]
  | .xorD8 n => [0xEE#8, n]
  | .rst28 => [0xEF#8]
  | .ldhAMA8 n => [0xF0#8, n]
  | .popAf => [0xF1#8]
  | .ldhAMC => [0xF2#8]
  | .di => [0xF3#8]
  | .illegalF4 => [0xF4#8]
  | .pushAf => [0xF5#8]
  | .orD8 n => [0xF6#8, n]
  | .rst30 => [0xF7#8]
  | .ldHlSpR8 e => [0xF8#8, e]
  | .ldSpHl => [0xF9#8]
  | .ldAMA16 a => [0xFA#8, lo a, hi a]
  | .ei => [0xFB#8]
  | .illegalFC => [0xFC#8]
  | .illegalFD => [0xFD#8]
  | .cpD8 n => [0xFE#8, n]
  | .rst38 => [0xFF#8]
  | .rlcB => [0xCB#8, 0x00#8]
  | .rlcC => [0xCB#8, 0x01#8]
  | .rlcD => [0xCB#8, 0x02#8]
  | .rlcE => [0xCB#8, 0x03#8]
  | .rlcH => [0xCB#8, 0x04#8]
  | .rlcL => [0xCB#8, 0x05#8]
  | .rlcMHl => [0xCB#8, 0x06#8]
  | .rlcA => [0xCB#8, 0x07#8]
  | .rrcB => [0xCB#8, 0x08#8]
  | .rrcC => [0xCB#8, 0x09#8]
  | .rrcD => [0xCB#8, 0x0A#8]
  | .rrcE => [0xCB#8, 0x0B#8]
  | .rrcH => [0xCB#8, 0x0C#8]
  | .rrcL => [0xCB#8, 0x0D#8]
  | .rrcMHl => [0xCB#8, 0x0E#8]
  | .rrcA => [0xCB#8, 0x0F#8]
  | .rlB => [0xCB#8, 0x10#8]
  | .rlC => [0xCB#8, 0x11#8]
  | .rlD => [0xCB#8, 0x12#8]
  | .rlE => [0xCB#8, 0x13#8]
  | .rlH => [0xCB#8, 0x14#8]
  | .rlL => [0xCB#8, 0x15#8]
  | .rlMHl => [0xCB#8, 0x16#8]
  | .rlA => [0xCB#8, 0x17#8]
  | .rrB => [0xCB#8, 0x18#8]
  | .rrC => [0xCB#8, 0x19#8]
  | .rrD => [0xCB#8, 0x1A#8]
  | .rrE => [0xCB#8, 0x1B#8]
  | .rrH => [0xCB#8, 0x1C#8]
  | .rrL => [0xCB#8, 0x1D#8]
  | .rrMHl => [0xCB#8, 0x1E#8]
  | .rrA => [0xCB#8, 0x1F#8]
  | .slaB => [0xCB#8, 0x20#8]
  | .slaC => [0xCB#8, 0x21#8]
  | .slaD => [0xCB#8, 0x22#8]
  | .slaE => [0xCB#8, 0x23#8]
  | .slaH => [0xCB#8, 0x24#8]
  | .slaL => [0xCB#8, 0x25#8]
  | .slaMHl => [0xCB#8, 0x26#8]
  | .slaA => [0xCB#8, 0x27#8]
  | .sraB => [0xCB#8, 0x28#8]
  | .sraC => [0xCB#8, 0x29#8]
  | .sraD => [0xCB#8, 0x2A#8]
  | .sraE => [0xCB#8, 0x2B#8]
  | .sraH => [0xCB#8, 0x2C#8]
  | .sraL => [0xCB#8, 0x2D#8]
  | .sraMHl => [0xCB#8, 0x2E#8]
  | .sraA => [0xCB#8, 0x2F#8]
  | .swapB => [0xCB#8, 0x30#8]
  | .swapC => [0xCB#8, 0x31#8]
  | .swapD => [0xCB#8, 0x32#8]
  | .swapE => [0xCB#8, 0x33#8]
  | .swapH => [0xCB#8, 0x34#8]
  | .swapL => [0xCB#8, 0x35#8]
  | .swapMHl => [0xCB#8, 0x36#8]
  | .swapA => [0xCB#8, 0x37#8]
  | .srlB => [0xCB#8, 0x38#8]
  | .srlC => [0xCB#8, 0x39#8]
  | .srlD => [0xCB#8, 0x3A#8]
  | .srlE => [0xCB#8, 0x3B#8]
  | .srlH => [0xCB#8, 0x3C#8]
  | .srlL => [0xCB#8, 0x3D#8]
  | .srlMHl => [0xCB#8, 0x3E#8]
  | .srlA => [0xCB#8, 0x3F#8]
  | .bit0B => [0xCB#8, 0x40#8]
  | .bit0C => [0xCB#8, 0x41#8]
  | .bit0D => [0xCB#8, 0x42#8]
  | .bit0E => [0xCB#8, 0x43#8]
  | .bit0H => [0xCB#8, 0x44#8]
  | .bit0L => [0xCB#8, 0x45#8]
  | .bit0MHl => [0xCB#8, 0x46#8]
  | .bit0A => [0xCB#8, 0x47#8]
  | .bit1B => [0xCB#8, 0x48#8]
  | .bit1C => [0xCB#8, 0x49#8]
  | .bit1D => [0xCB#8, 0x4A#8]
  | .bit1E => [0xCB#8, 0x4B#8]
  | .bit1H => [0xCB#8, 0x4C#8]
  | .bit1L => [0xCB#8, 0x4D#8]
  | .bit1MHl => [0xCB#8, 0x4E#8]
  | .bit1A => [0xCB#8, 0x4F#8]
  | .bit2B => [0xCB#8, 0x50#8]
  | .bit2C => [0xCB#8, 0x51#8]
  | .bit2D => [0xCB#8, 0x52#8]
  | .bit2E => [0xCB#8, 0x53#8]
  | .bit2H => [0xCB#8, 0x54#8]
  | .bit2L => [0xCB#8, 0x55#8]
  | .bit2MHl => [0xCB#8, 0x56#8]
  | .bit2A => [0xCB#8, 0x57#8]
  | .bit3B => [0xCB#8, 0x58#8]
  | .bit3C => [0xCB#8, 0x59#8]
  | .bit3D => [0xCB#8, 0x5A#8]
  | .bit3E => [0xCB#8, 0x5B#8]
  | .bit3H => [0xCB#8, 0x5C#8]
  | .bit3L => [0xCB#8, 0x5D#8]
  | .bit3MHl => [0xCB#8, 0x5E#8]
  | .bit3A => [0xCB#8, 0x5F#8]
  | .bit4B => [0xCB#8, 0x60#8]
  | .bit4C => [0xCB#8, 0x61#8]
  | .bit4D => [0xCB#8, 0x62#8]
  | .bit4E => [0xCB#8, 0x63#8]
  | .bit4H => [0xCB#8, 0x64#8]
  | .bit4L => [0xCB#8, 0x65#8]
  | .bit4MHl => [0xCB#8, 0x66#8]
  | .bit4A => [0xCB#8, 0x67#8]
  | .bit5B => [0xCB#8, 0x68#8]
  | .bit5C => [0xCB#8, 0x69#8]
  | .bit5D => [0xCB#8, 0x6A#8]
  | .bit5E => [0xCB#8, 0x6B#8]
  | .bit5H => [0xCB#8, 0x6C#8]
  | .bit5L => [0xCB#8, 0x6D#8]
  | .bit5MHl => [0xCB#8, 0x6E#8]
  | .bit5A => [0xCB#8, 0x6F#8]
  | .bit6B => [0xCB#8, 0x70#8]
  | .bit6C => [0xCB#8, 0x71#8]
  | .bit6D => [0xCB#8, 0x72#8]
  | .bit6E => [0xCB#8, 0x73#8]
  | .bit6H => [0xCB#8, 0x74#8]
  | .bit6L => [0xCB#8, 0x75#8]
  | .bit6MHl => [0xCB#8, 0x76#8]
  | .bit6A => [0xCB#8, 0x77#8]
  | .bit7B => [0xCB#8, 0x78#8]
  | .bit7C => [0xCB#8, 0x79#8]
  | .bit7D => [0xCB#8, 0x7A#8]
  | .bit7E => [0xCB#8, 0x7B#8]
  | .bit7H => [0xCB#8, 0x7C#8]
  | .bit7L => [0xCB#8, 0x7D#8]
  | .bit7MHl => [0xCB#8, 0x7E#8]
  | .bit7A => [0xCB#8, 0x7F#8]
  | .res0B => [0xCB#8, 0x80#8]
  | .res0C => [0xCB#8, 0x81#8]
  | .res0D => [0xCB#8, 0x82#8]
  | .res0E => [0xCB#8, 0x83#8]
  | .res0H => [0xCB#8, 0x84#8]
  | .res0L => [0xCB#8, 0x85#8]
  | .res0MHl => [0xCB#8, 0x86#8]
  | .res0A => [0xCB#8, 0x87#8]
  | .res1B => [0xCB#8, 0x88#8]
  | .res1C => [0xCB#8, 0x89#8]
  | .res1D => [0xCB#8, 0x8A#8]
  | .res1E => [0xCB#8, 0x8B#8]
  | .res1H => [0xCB#8, 0x8C#8]
  | .res1L => [0xCB#8, 0x8D#8]
  | .res1MHl => [0xCB#8, 0x8E#8]
  | .res1A => [0xCB#8, 0x8F#8]
  | .res2B => [0xCB#8, 0x90#8]
  | .res2C => [0xCB#8, 0x91#8]
  | .res2D => [0xCB#8, 0x92#8]
  | .res2E => [0xCB#8, 0x93#8]
  | .res2H => [0xCB#8, 0x94#8]
  | .res2L => [0xCB#8, 0x95#8]
  | .res2MHl => [0xCB#8, 0x96#8]
  | .res2A => [0xCB#8, 0x97#8]
  | .res3B => [0xCB#8, 0x98#8]
  | .res3C => [0xCB#8, 0x99#8]
  | .res3D => [0xCB#8, 0x9A#8]
  | .res3E => [0xCB#8, 0x9B#8]
  | .res3H => [0xCB#8, 0x9C#8]
  | .res3L => [0xCB#8, 0x9D#8]
  | .res3MHl => [0xCB#8, 0x9E#8]
  | .res3A => [0xCB#8, 0x9F#8]
  | .res4B => [0xCB#8, 0xA0#8]
  | .res4C => [0xCB#8, 0xA1#8]
  | .res4D => [0xCB#8, 0xA2#8]
  | .res4E => [0xCB#8, 0xA3#8]
  | .res4H => [0xCB#8, 0xA4#8]
  | .res4L => [0xCB#8, 0xA5#8]
  | .res4MHl => [0xCB#8, 0xA6#8]
  | .res4A => [0xCB#8, 0xA7#8]
  | .res5B => [0xCB#8, 0xA8#8]
  | .res5C => [0xCB#8, 0xA9#8]
  | .res5D => [0xCB#8, 0xAA#8]
  | .res5E => [0xCB#8, 0xAB#8]
  | .res5H => [0xCB#8, 0xAC#8]
  | .res5L => [0xCB#8, 0xAD#8]
  | .res5MHl => [0xCB#8, 0xAE#8]
  | .res5A => [0xCB#8, 0xAF#8]
  | .res6B => [0xCB#8, 0xB0#8]
  | .res6C => [0xCB#8, 0xB1#8]
  | .res6D => [0xCB#8, 0xB2#8]
  | .res6E => [0xCB#8, 0xB3#8]
  | .res6H => [0xCB#8, 0xB4#8]
  | .res6L => [0xCB#8, 0xB5#8]
  | .res6MHl => [0xCB#8, 0xB6#8]
  | .res6A => [0xCB#8, 0xB7#8]
  | .res7B => [0xCB#8, 0xB8#8]
  | .res7C => [0xCB#8, 0xB9#8]
  | .res7D => [0xCB#8, 0xBA#8]
  | .res7E => [0xCB#8, 0xBB#8]
  | .res7H => [0xCB#8, 0xBC#8]
  | .res7L => [0xCB#8, 0xBD#8]
  | .res7MHl => [0xCB#8, 0xBE#8]
  | .res7A => [0xCB#8, 0xBF#8]
  | .set0B => [0xCB#8, 0xC0#8]
  | .set0C => [0xCB#8, 0xC1#8]
  | .set0D => [0xCB#8, 0xC2#8]
  | .set0E => [0xCB#8, 0xC3#8]
  | .set0H => [0xCB#8, 0xC4#8]
  | .set0L => [0xCB#8, 0xC5#8]
  | .set0MHl => [0xCB#8, 0xC6#8]
  | .set0A => [0xCB#8, 0xC7#8]
  | .set1B => [0xCB#8, 0xC8#8]
  | .set1C => [0xCB#8, 0xC9#8]
  | .set1D => [0xCB#8, 0xCA#8]
  | .set1E => [0xCB#8, 0xCB#8]
  | .set1H => [0xCB#8, 0xCC#8]
  | .set1L => [0xCB#8, 0xCD#8]
  | .set1MHl => [0xCB#8, 0xCE#8]
  | .set1A => [0xCB#8, 0xCF#8]
  | .set2B => [0xCB#8, 0xD0#8]
  | .set2C => [0xCB#8, 0xD1#8]
  | .set2D => [0xCB#8, 0xD2#8]
  | .set2E => [0xCB#8, 0xD3#8]
  | .set2H => [0xCB#8, 0xD4#8]
  | .set2L => [0xCB#8, 0xD5#8]
  | .set2MHl => [0xCB#8, 0xD6#8]
  | .set2A => [0xCB#8, 0xD7#8]
  | .set3B => [0xCB#8, 0xD8#8]
  | .set3C => [0xCB#8, 0xD9#8]
  | .set3D => [0xCB#8, 0xDA#8]
  | .set3E => [0xCB#8, 0xDB#8]
  | .set3H => [0xCB#8, 0xDC#8]
  | .set3L => [0xCB#8, 0xDD#8]
  | .set3MHl => [0xCB#8, 0xDE#8]
  | .set3A => [0xCB#8, 0xDF#8]
  | .set4B => [0xCB#8, 0xE0#8]
  | .set4C => [0xCB#8, 0xE1#8]
  | .set4D => [0xCB#8, 0xE2#8]
  | .set4E => [0xCB#8, 0xE3#8]
  | .set4H => [0xCB#8, 0xE4#8]
  | .set4L => [0xCB#8, 0xE5#8]
  | .set4MHl => [0xCB#8, 0xE6#8]
  | .set4A => [0xCB#8, 0xE7#8]
  | .set5B => [0xCB#8, 0xE8#8]
  | .set5C => [0xCB#8, 0xE9#8]
  | .set5D => [0xCB#8, 0xEA#8]
  | .set5E => [0xCB#8, 0xEB#8]
  | .set5H => [0xCB#8, 0xEC#8]
  | .set5L => [0xCB#8, 0xED#8]
  | .set5MHl => [0xCB#8, 0xEE#8]
  | .set5A => [0xCB#8, 0xEF#8]
  | .set6B => [0xCB#8, 0xF0#8]
  | .set6C => [0xCB#8, 0xF1#8]
  | .set6D => [0xCB#8, 0xF2#8]
  | .set6E => [0xCB#8, 0xF3#8]
  | .set6H => [0xCB#8, 0xF4#8]
  | .set6L => [0xCB#8, 0xF5#8]
  | .set6MHl => [0xCB#8, 0xF6#8]
  | .set6A => [0xCB#8, 0xF7#8]
  | .set7B => [0xCB#8, 0xF8#8]
  | .set7C => [0xCB#8, 0xF9#8]
  | .set7D => [0xCB#8, 0xFA#8]
  | .set7E => [0xCB#8, 0xFB#8]
  | .set7H => [0xCB#8, 0xFC#8]
  | .set7L => [0xCB#8, 0xFD#8]
  | .set7MHl => [0xCB#8, 0xFE#8]
  | .set7A => [0xCB#8, 0xFF#8]

/-- The three bytes of a table word: bits 7..0 first, then 15..8, then 23..16, every bit at or above `nbits` zero. -/
def tableBytes (nbits w : Nat) : List Byte :=
  [BitVec.ofNat 8 (w % 2 ^ nbits), BitVec.ofNat 8 (w % 2 ^ nbits / 256), BitVec.ofNat 8 (w % 2 ^ nbits / 65536)]

/-- The instruction the decoder reads from a word numbered as spec/opcode_table.json numbers it (log entry 9). -/
def decodeTableWord (nbits w : Nat) : Option Instr :=
  match decode (tableBytes nbits w) with
  | .ok (i, _) => some i
  | .error _ => none

end Sys2Proof
end

