-- ==== Sys2Proof/Machine/Region.lean ====
section
/-! DEFINITION. The region contract of the bus (20_memory.md section 1, R100 to R106): regions with a capability, the two
capability spaces, `map`, `unmap`, `remap` and `isRegionMapped` with their typed errors. The kind of backing is a
parameter: the bus "has no knowledge of what it is dispatching to" (R113). -/

namespace Sys2Proof.Machine

/-- The capability of a region (R100). -/
inductive Capability where
  | readOnly | writeOnly | readWrite
deriving DecidableEq, Repr

/-- A bus region: start, length, capability and backing (R100). -/
structure Region (β : Type) where
  start : Nat
  length : Nat
  cap : Capability
  backing : β
deriving DecidableEq, Repr

/-- The typed, recoverable results of the region contract (R103 to R105; 60_exceptions.md R402, R403). -/
inductive BusConfigError where
  | mapConflict | notMapped
deriving DecidableEq, Repr

/-- The set of mapped regions. -/
abbrev RegionTable (β : Type) := List (Region β)

/-- The region is in the read space (R101). -/
def Region.readable {β : Type} (r : Region β) : Bool :=
  match r.cap with
  | .readOnly => true | .writeOnly => false | .readWrite => true

/-- The region is in the write space (R101). -/
def Region.writable {β : Type} (r : Region β) : Bool :=
  match r.cap with
  | .readOnly => false | .writeOnly => true | .readWrite => true

/-- A region "covers the addresses `start` to `start + length - 1`" (R100). -/
def Region.covers {β : Type} (r : Region β) (a : Nat) : Bool := decide (r.start ≤ a) && decide (a < r.start + r.length)

/-- "length is at least 1 and `start + length` is at most 65536" (R100). -/
def Region.valid {β : Type} (r : Region β) : Bool := decide (1 ≤ r.length) && decide (r.start + r.length ≤ 65536)

/-- The address ranges of two regions intersect. -/
def Region.intersects {β : Type} (r q : Region β) : Bool :=
  decide (r.start < q.start + q.length) && decide (q.start < r.start + r.length)

/-- Two regions are in conflict: they intersect and share a capability space (R101, R103). -/
def Region.conflicts {β : Type} (r q : Region β) : Bool :=
  r.intersects q && ((r.readable && q.readable) || (r.writable && q.writable))

/-- The invariant of the table: "no two regions may overlap in the same capability's address space" (R101), and every
region lies in the address space (R100). -/
def RegionTable.ok {β : Type} (t : RegionTable β) : Bool :=
  match t with
  | [] => true
  | r :: t => r.valid && t.all (fun q => !r.conflicts q) && RegionTable.ok t

/-- The region of the read space that contains an address (R102, R110). -/
def RegionTable.readAt {β : Type} (t : RegionTable β) (a : Nat) : Option (Region β) :=
  t.find? fun r => r.readable && r.covers a

/-- The region of the write space that contains an address (R102, R111). -/
def RegionTable.writeAt {β : Type} (t : RegionTable β) (a : Nat) : Option (Region β) :=
  t.find? fun r => r.writable && r.covers a

/-- `map(region)`: adds it, or `MapConflict` and the table unchanged (R103). -/
def RegionTable.map {β : Type} (t : RegionTable β) (r : Region β) : Except BusConfigError (RegionTable β) :=
  if t.any (fun q => r.conflicts q) then .error .mapConflict else .ok (t ++ [r])

/-- The region `unmap(addr)` removes: one that starts exactly there, the one in the read space if two do (R104, D15). -/
def RegionTable.unmapTarget {β : Type} (t : RegionTable β) (a : Nat) : Option (Region β) :=
  match t.find? fun r => r.readable && decide (r.start = a) with
  | some r => some r
  | none => t.find? fun r => decide (r.start = a)

/-- `unmap(addr)`: removes the region that starts exactly at `addr`, or `NotMapped` and the table unchanged (R104). -/
def RegionTable.unmap {β : Type} [DecidableEq β] (t : RegionTable β) (a : Nat) :
    Except BusConfigError (RegionTable β) :=
  match t.unmapTarget a with
  | some r => .ok (t.erase r)
  | none => .error .notMapped

/-- The region `remap(region)` replaces: the one with the same start and the same capability (R105). -/
def Region.sameSlot {β : Type} (r q : Region β) : Bool := decide (r.start = q.start) && decide (r.cap = q.cap)

/-- `remap(region)`: replaces the backing of a region of the same start, capability and length, or fails with the
table unchanged (R105, R403). -/
def RegionTable.remap {β : Type} (t : RegionTable β) (r : Region β) : Except BusConfigError (RegionTable β) :=
  if t.any (fun q => q.sameSlot r && decide (q.length = r.length)) then
    .ok (List.map (fun q => if q.sameSlot r then r else q) t)
  else .error .notMapped

/-- `isRegionMapped(addr)`: some region starts at `addr` (R106). -/
def RegionTable.isRegionMapped {β : Type} (t : RegionTable β) (a : Nat) : Bool := t.any fun r => decide (r.start = a)

end Sys2Proof.Machine
end

