-- ==== Sys2Proof/Config.lean ====
section
/-! DEFINITION. The parameters of 00_scope.md R7 as fields of one structure, each defaulting to the value R7 gives,
and the one free value of the model, the answers of the external collaborators (20_memory.md R134). REG_WIDTH and
ADDR_WIDTH, which the source states, are the types `Byte` and `Word`; EXT is a field of State (log entry 4). -/

namespace Sys2Proof

/-- The five interrupt kinds (60_exceptions.md R410). -/
inductive IrqKind where
  | vblank | lcdStatus | timer | serial | joypad
deriving DecidableEq, Repr

/-- The kinds in the order `Dispatch` scans them: "vblank > lcd-status > timer > serial > joypad" (R410, R414). -/
def IrqKind.priority : List IrqKind := [.vblank, .lcdStatus, .timer, .serial, .joypad]

/-- The core's registers on the bus (20_memory.md R131). -/
inductive IoReg where
  | div | tima | tma | tac | irqFlags | lcdc | stat | scy | scx | ly | lyc | dma | bgp | obp0 | obp1 | wy | wx
  | bootOff | irqEnable
deriving DecidableEq, Repr

/-- The registers in the order of R131's table. -/
def IoReg.all : List IoReg :=
  [.div, .tima, .tma, .tac, .irqFlags, .lcdc, .stat, .scy, .scx, .ly, .lyc, .dma, .bgp, .obp0, .obp1, .wy, .wx,
   .bootOff, .irqEnable]

/-- A range of addresses of the map: its first address and its length (20_memory.md R100). -/
structure Span where
  start : Nat
  length : Nat
deriving DecidableEq, Repr

/-- PLATFORM_MAP: the address ranges of 20_memory.md R130, the core's registers apart (R7; GK, D16, log entry 1). -/
structure AddressMap where
  /-- The cartridge's bank-0 window, at whose start the boot overlay stands while it is mapped (R130, R133). -/
  bank0 : Span := ⟨0x0000, 0x4000⟩
  /-- The cartridge's switchable bank-1 window. -/
  bank1 : Span := ⟨0x4000, 0x4000⟩
  /-- The cartridge's banking control, "if the cartridge has a controller". -/
  control : Span := ⟨0x0000, 0x8000⟩
  vram : Span := ⟨0x8000, 0x2000⟩
  /-- The cartridge's external-RAM window. -/
  extRam : Span := ⟨0xA000, 0x2000⟩
  wram : Span := ⟨0xC000, 0x2000⟩
  oam : Span := ⟨0xFE00, 0x00A0⟩
  hram : Span := ⟨0xFF80, 0x007F⟩
  joypad : Span := ⟨0xFF00, 0x0001⟩
  serial : Span := ⟨0xFF01, 0x0002⟩
  audio : Span := ⟨0xFF10, 0x0030⟩
deriving DecidableEq, Repr

/-- One access the bus made to an external region: what an external collaborator has seen so far is a list of these. -/
inductive ExtAccess where
  | read (addr : Word)
  | write (addr : Word) (v : Byte)
deriving DecidableEq, Repr

/-- The parameters of R7. The defaults are R7's; those R7 marks GK or D are marked so in log entry 1. -/
structure Config where
  /-- ACCESS_CYCLES: cycles charged per byte fetched, read or written (R7, R12). -/
  accessCycles : Nat := 4
  /-- FLAG_SHIFT: bit index of the carry flag inside F (R7, R36; 90 C4). -/
  flagShift : Nat := 0
  /-- RESET_SP (R7, R34). -/
  resetSp : Word := 0xFFFF#16
  /-- RESET_PC (R7, R35). -/
  resetPc : Word := 0x0000#16
  /-- RESET_REG8 for each of A, F, B, C, D, E, H, L (R7, R31); the flags take it by R36's `F <- v` (R32). -/
  resetReg8 : Byte := 0x00#8
  /-- OPEN_BUS: what a CPU or DMA read of an unmapped address yields (R7, R112). -/
  openBus : Byte := 0xFF#8
  /-- HALT_TICK: cycles charged per halted CPU step (R7, R382). -/
  haltTick : Nat := 4
  /-- DIV_N: cycles per divider increment (R7, R53). -/
  divN : Nat := 256
  /-- TIMER_PERIOD[0..3]: cycles per programmable-counter increment, by clock-select (R7, R56). -/
  timerPeriod : BitVec 2 → Nat := fun sel =>
    if sel = 0#2 then 1024 else if sel = 1#2 then 16 else if sel = 2#2 then 64 else 256
  /-- IRQ_BIT: bit of each kind in the requested and enabled vectors (R7, R410). -/
  irqBit : IrqKind → Nat := fun k =>
    match k with
    | .vblank => 0 | .lcdStatus => 1 | .timer => 2 | .serial => 3 | .joypad => 4
  /-- IRQ_VECTOR: handler address of each kind (R7, R415). -/
  irqVector : IrqKind → Word := fun k =>
    match k with
    | .vblank => 0x0040#16 | .lcdStatus => 0x0048#16 | .timer => 0x0050#16 | .serial => 0x0058#16 | .joypad => 0x0060#16
  /-- IRQ_ENTRY_CYCLES: cycles charged before the push of an interrupt entry (R7, R416). -/
  irqEntryBefore : Nat := 8
  /-- IRQ_ENTRY_CYCLES: cycles charged after the push of an interrupt entry (R7, R416). -/
  irqEntryAfter : Nat := 4
  /-- PPU_SEARCH_LEN (R7, R481). -/
  searchLen : Nat := 80
  /-- PPU_TRANSFER_LEN (R7, R481). -/
  transferLen : Nat := 172
  /-- PPU_HBLANK_LEN (R7, R481). -/
  hblankLen : Nat := 204
  /-- VISIBLE_LINES (R7). -/
  visibleLines : Nat := 144
  /-- VBLANK_LINES (R7). -/
  vblankLines : Nat := 10
  /-- SCREEN_W (R7). -/
  screenW : Nat := 160
  /-- N_SPRITES (R7). -/
  nSprites : Nat := 40
  /-- MAX_LINE_SPRITES (R7). -/
  maxLineSprites : Nat := 10
  /-- DMA_LEN (R7). -/
  dmaLen : Nat := 160
  /-- DMA_BYTE_CYCLES (R7). -/
  dmaByteCycles : Nat := 4
  /-- BOOT_IMAGE: contents of the boot overlay (R7, R133). -/
  bootImage : List Byte := []
  /-- BOOT_MAX: the longest boot image (R7, R133). -/
  bootMax : Nat := 256
  /-- PLATFORM_MAP (R7, R130). -/
  platformMap : AddressMap := {}
  /-- MMIO addresses: the address of each of the core's registers (R7, R131). -/
  ioAddress : IoReg → Nat := fun r =>
    match r with
    | .div => 0xFF04 | .tima => 0xFF05 | .tma => 0xFF06 | .tac => 0xFF07 | .irqFlags => 0xFF0F | .lcdc => 0xFF40
    | .stat => 0xFF41 | .scy => 0xFF42 | .scx => 0xFF43 | .ly => 0xFF44 | .lyc => 0xFF45 | .dma => 0xFF46
    | .bgp => 0xFF47 | .obp0 => 0xFF48 | .obp1 => 0xFF49 | .wy => 0xFF4A | .wx => 0xFF4B | .bootOff => 0xFF50
    | .irqEnable => 0xFFFF

/-- The parameters of this machine: R7's defaults. -/
def cfg : Config := {}

/-- LINE_LEN, the sum of the three phase lengths (R7, R481). -/
def Config.lineLen (c : Config) : Nat := c.searchLen + c.transferLen + c.hblankLen

/-- Lines of a frame (R7, R480). -/
def Config.frameLines (c : Config) : Nat := c.visibleLines + c.vblankLines

/-- FREE VALUE. What an unconstrained external collaborator answers to a read of one address, after the accesses made
to it so far: a byte, or `none` for unmapped-read (20_memory.md R134, 93 U7; log entry 4). It has no body a proof can see. -/
opaque Config.extAnswer : List ExtAccess → Word → Option Byte

end Sys2Proof
end

