-- ==== Sys2Proof/Machine/Memory.lean ====
section
/-! DEFINITION. Storage in one canonical form: a list of (key, value) pairs whose keys rise strictly and none of whose
values is what an unlisted key reads as. Bytes of memory and pixels of a frame are both held so (log entry 11). -/

namespace Sys2Proof.Machine

/-- A store of `w`-bit values by key. -/
abbrev Sparse (w : Nat) := List (Nat × BitVec w)

/-- What an unlisted key reads as: the reset contents of every memory and every frame, 0 (10_state.md R69 to R72, R81, R90). -/
def unlisted {w : Nat} : BitVec w := 0#w

/-- The value at a key. -/
def Sparse.get {w : Nat} (m : Sparse w) (k : Nat) : BitVec w :=
  match m with
  | [] => unlisted
  | (j, v) :: t => if j = k then v else Sparse.get t k

/-- An entry put at the head, unless it would equal what an unlisted key reads as. -/
def Sparse.putHead {w : Nat} (k : Nat) (v : BitVec w) (t : Sparse w) : Sparse w :=
  if v = unlisted then t else (k, v) :: t

/-- Writing a value at a key, keeping the canonical form. -/
def Sparse.set {w : Nat} (m : Sparse w) (k : Nat) (v : BitVec w) : Sparse w :=
  match m with
  | [] => Sparse.putHead k v []
  | (j, u) :: t =>
    if k < j then Sparse.putHead k v ((j, u) :: t)
    else if k = j then Sparse.putHead k v t
    else (j, u) :: Sparse.set t k v

/-- Every key of the list is above `k`. -/
def Sparse.above {w : Nat} (k : Nat) (m : Sparse w) : Bool := m.all fun e => decide (k < e.1)

/-- The canonical form: strictly rising keys, no entry equal to the unlisted value. -/
def Sparse.wf {w : Nat} (m : Sparse w) : Bool :=
  match m with
  | [] => true
  | (k, v) :: t => decide (v ≠ unlisted) && Sparse.above k t && Sparse.wf t

/-- Bytes by bus address (Host.Cell pairs). -/
abbrev Memory := List Host.Cell

/-- The byte at an address. -/
abbrev Memory.read (m : Memory) (a : Nat) : Byte := Sparse.get m a

/-- A byte written at an address. -/
abbrev Memory.write (m : Memory) (a : Nat) (v : Byte) : Memory := Sparse.set m a v

/-- The canonical form of a memory. -/
abbrev Memory.wf (m : Memory) : Bool := Sparse.wf m

/-- Pixels of a frame by index `line * 160 + x` (10_state.md R72). -/
abbrev Frame := Sparse 2

end Sys2Proof.Machine
end

