-- ==== Sys2Proof/Machine/State.lean ====
section
/-! DEFINITION. The state of the block (10_state.md R30), as plain data, and its value after reset (R90). -/

namespace Sys2Proof.Machine

/-- The four flags: zero, subtract, half-carry, carry (R32). -/
structure Flags where
  z : Bool
  n : Bool
  h : Bool
  c : Bool
deriving DecidableEq, Repr

/-- The CPU register file and the halted flag (R31 to R38). F is `f`; AF, BC, DE and HL are views (R33). -/
structure Cpu where
  a : Byte
  b : Byte
  c : Byte
  d : Byte
  e : Byte
  h : Byte
  l : Byte
  f : Flags
  sp : Word
  pc : Word
  halted : Bool
deriving DecidableEq, Repr

/-- The interrupt state: IF, IE and the global enable IME (R40 to R42). -/
structure Irq where
  requested : BitVec 5
  enabled : BitVec 5
  ime : Bool
deriving DecidableEq, Repr

/-- The timer state (R50 to R56). The divider is computed, not stored (R51). -/
structure Timer where
  cycles : Nat
  divOrigin : Nat
  tima : Byte
  tma : Byte
  tac : BitVec 3
deriving DecidableEq, Repr

/-- The modes of the picture generator (R62). -/
inductive Mode where
  | hblank | vblank | search | transfer
deriving DecidableEq, Repr

/-- The picture-generator state (R60 to R72, R74). `statEn` holds bits 6 to 3 of the status register, its bit 0 being
register bit 3 (R64); `seen` is `ppu_seen` (R74). -/
structure Ppu where
  ly : Byte
  mode : Mode
  lineCycle : Nat
  statEn : BitVec 4
  lycMatch : Bool
  lyc : Byte
  scy : Byte
  scx : Byte
  wy : Byte
  wx : Byte
  lcdc : Byte
  bgp : Byte
  obp0 : Byte
  obp1 : Byte
  visible : List Nat
  fbDraw : Frame
  fbReady : Frame
  frameReady : Bool
  seen : Nat
deriving DecidableEq, Repr

/-- The DMA state (R73). -/
structure Dma where
  active : Bool
  src : Word
  index : Nat
  budget : Nat
  reg : Byte
deriving DecidableEq, Repr

/-- Why the machine is in the terminal state `Stopped` (60_exceptions.md R401). -/
inductive StopReason where
  /-- An unassigned opcode byte was fetched, with the byte and its address (47_system.md R387). -/
  | unknownOpcode (op : Byte) (addr : Word)
  /-- `STOP` was fetched (47_system.md R383). -/
  | stopNotModelled
deriving DecidableEq, Repr

/-- What stands outside the bus in the regions of `EXT` (20_memory.md R134; log entry 4). -/
inductive ExtDevice where
  /-- The ROM-only cartridge of R134 and D33: its image at 0x0000 to 0x7FFF, no banking controller, writes ignored. -/
  | romOnly (rom : Memory)
  /-- Collaborators whose answers are unconstrained, a banking controller among them, with every access they have seen,
  the latest first. -/
  | oracle (history : List ExtAccess)
deriving DecidableEq, Repr

/-- What the outside may do between two top-level steps (60_exceptions.md R442; 61_devices.md R545; 70 R560). -/
inductive HostEvent where
  /-- The serial collaborator requests its interrupt (R545). -/
  | requestSerial
  /-- The joypad collaborator requests its interrupt (R545). -/
  | requestJoypad
  /-- The host consumes the ready frame, which clears `frame_ready` (10_state.md R72). -/
  | consumeFrame
  /-- The external collaborators change what `EXT` answers (R442). -/
  | extBecomes (ext : ExtDevice)
  /-- The host applies reset (R560). -/
  | reset
deriving DecidableEq, Repr

/-- The state of the machine. -/
structure State where
  cpu : Cpu
  irq : Irq
  timer : Timer
  ppu : Ppu
  dma : Dma
  /-- `vram`, `wram`, `oam` and `hram`, keyed by bus address (R69, R70, R81). -/
  mem : Memory
  /-- Whether the boot overlay is mapped (R80). -/
  bootActive : Bool
  /-- The terminal state `Stopped(reason)`, if the machine is in it (60_exceptions.md R401). -/
  stopped : Option StopReason
  /-- MODEL'S OWN: the parameter BOOT_IMAGE, which no step changes (20_memory.md R133; log entry 10). -/
  bootImage : List Byte
  /-- MODEL'S OWN: what answers the external regions (log entry 4). -/
  ext : ExtDevice
  /-- MODEL'S OWN: what the outside does in each coming gap between top-level steps, the next gap first (log entry 6). -/
  inputs : List (List HostEvent)
deriving DecidableEq, Repr

/-- Why the machine stops with a fault. -/
inductive Fault where
  /-- Raised by `step`, before anything else, in a machine configured with a boot image longer than BOOT_MAX: "the
  machine is not started" (20_memory.md R133). Safe: the model stops where the spec starts no machine. -/
  | oversizedBootImage
deriving DecidableEq, Repr

/-- Why an instruction has no meaning. -/
inductive Refusal where
  /-- Raised by an arm of `exec` whose instruction has no meaning yet; no arm of this model raises it. Safe. -/
  | notModelled (mnemonic : String)
  /-- Raised by `step` if the fetched bytes did not decode; it fetches whole instructions, and all bytes decode, so it
  is never raised (Laws/Step.lean). Safe. -/
  | undecodable
deriving DecidableEq, Repr

/-- What an instruction or a step answers. -/
abbrev Result := Host.Outcome State Fault Refusal

/-- The CPU after reset (R90); the flags are the bits of RESET_REG8 that `F <- v` takes (R36; 00_scope.md R7). -/
def Cpu.reset : Cpu where
  a := cfg.resetReg8
  b := cfg.resetReg8
  c := cfg.resetReg8
  d := cfg.resetReg8
  e := cfg.resetReg8
  h := cfg.resetReg8
  l := cfg.resetReg8
  f :=
    { z := cfg.resetReg8.getLsbD (cfg.flagShift + 3)
      n := cfg.resetReg8.getLsbD (cfg.flagShift + 2)
      h := cfg.resetReg8.getLsbD (cfg.flagShift + 1)
      c := cfg.resetReg8.getLsbD cfg.flagShift }
  sp := cfg.resetSp
  pc := cfg.resetPc
  halted := false

/-- The interrupt state after reset (R90). -/
def Irq.reset : Irq where
  requested := 0#5
  enabled := 0#5
  ime := false

/-- The timer after reset (R90). -/
def Timer.reset : Timer where
  cycles := 0
  divOrigin := 0
  tima := 0#8
  tma := 0#8
  tac := 0#3

/-- The picture generator after reset (R90). -/
def Ppu.reset : Ppu where
  ly := 0#8
  mode := .search
  lineCycle := 0
  statEn := 0#4
  lycMatch := false
  lyc := 0#8
  scy := 0#8
  scx := 0#8
  wy := 0#8
  wx := 0#8
  lcdc := 0#8
  bgp := 0#8
  obp0 := 0#8
  obp1 := 0#8
  visible := []
  fbDraw := []
  fbReady := []
  frameReady := false
  seen := 0

/-- The DMA engine after reset (R90). -/
def Dma.reset : Dma where
  active := false
  src := 0#16
  index := 0
  budget := 0
  reg := 0#8

/-- The block after reset with a given boot image and given collaborators: every piece of state at R90's value. -/
def State.resetWith (bootImage : List Byte) (ext : ExtDevice) (inputs : List (List HostEvent)) : State where
  cpu := Cpu.reset
  irq := Irq.reset
  timer := Timer.reset
  ppu := Ppu.reset
  dma := Dma.reset
  mem := []
  bootActive := !bootImage.isEmpty
  stopped := none
  bootImage := bootImage
  ext := ext
  inputs := inputs

/-- The machine right after reset (R90, R560, R561). The collaborators' state is "not specified (outside the core)": an
unconstrained oracle that has seen nothing (log entry 5). -/
def State.reset : State := State.resetWith cfg.bootImage (.oracle []) []

end Sys2Proof.Machine
end

