-- ==== Sys2Proof/Machine/Timer.lean ====
section
/-! DEFINITION. Interrupt requests (60_exceptions.md R411) and the timer (61_devices.md section 1). -/

namespace Sys2Proof.Machine

/-- `Request(kind)`: "sets the corresponding bit in the requested vector" (R411). -/
def request (k : IrqKind) (s : State) : State :=
  { s with irq := { s.irq with requested := setBit s.irq.requested (cfg.irqBit k) } }

/-- `TimaStep()`: the programmable counter counts, and on overflow reloads and requests (R464). -/
def timaStep (s : State) : State :=
  if s.timer.tima = 0xFF#8 then request .timer { s with timer := { s.timer with tima := s.timer.tma } }
  else { s with timer := { s.timer with tima := s.timer.tima + 1#8 } }

/-- The period of the programmable counter under the present clock-select (R56, R463). -/
def timerPeriod (s : State) : Nat := cfg.timerPeriod (s.timer.tac.extractLsb' 0 2)

/-- One cycle of `Tick` (R463): the counter advances, and steps TIMA when it is enabled and the new value is a
multiple of the period. -/
def tickOne (s : State) : State :=
  let t := { s with timer := { s.timer with cycles := s.timer.cycles + 1 } }
  if t.timer.tac.getLsbD 2 && t.timer.cycles % timerPeriod t == 0 then timaStep t else t

/-- `Tick(n)`: n single-cycle steps (R463). -/
def tick (n : Nat) (s : State) : State :=
  match n with
  | 0 => s
  | n + 1 => tick n (tickOne s)

/-- The divider register, "always a pure function of the cycle counter" (10_state.md R51, R53; R465). -/
def divider (s : State) : Byte := BitVec.ofNat 8 ((s.timer.cycles - s.timer.divOrigin) / cfg.divN)

/-- `resetDiv()`: "resets only the divider's logical origin, not the counter" (R466). -/
def resetDiv (s : State) : State := { s with timer := { s.timer with divOrigin := s.timer.cycles } }

end Sys2Proof.Machine
end

