-- ==== Sys2Proof/Machine/Bus.lean ====
section
/-! DEFINITION. The address map (20_memory.md R130, R131), the registers of the core (10_state.md R43 to R73) and the two
bus operations `MemRead` and `MemWrite` (R110, R111). -/

namespace Sys2Proof.Machine

/-- What backs a region of the map (R130): the boot image, an external collaborator, a byte buffer of the core, or the
accessors of a register. -/
inductive Backing where
  | boot | ext | buffer | io (r : IoReg)
deriving DecidableEq, Repr

/-- A range of the map as a region. -/
def spanRegion (x : Span) (c : Capability) (k : Backing) : Region Backing :=
  { start := x.start, length := x.length, cap := c, backing := k }

/-- The regions of the bank-0 window in the read space: the overlay while it is mapped, and the cartridge's window where
the overlay does not stand (R130, R133; log entry 12). -/
def lowRegions (bootActive : Bool) (bootLen : Nat) : RegionTable Backing :=
  let w := cfg.platformMap.bank0
  if bootActive && decide (0 < bootLen) then
    [spanRegion ⟨w.start, bootLen⟩ .readOnly .boot, spanRegion ⟨w.start + bootLen, w.length - bootLen⟩ .readOnly .ext]
  else [spanRegion w .readOnly .ext]

/-- The cartridge's banking control, "if the cartridge has a controller" (R130): without one, "a write to ROM with no
banking controller is an unmapped-write" (R111). -/
def controlRegions (controller : Bool) : RegionTable Backing :=
  if controller then [spanRegion cfg.platformMap.control .writeOnly .ext] else []

/-- The memories and external windows of R130 that never change. -/
def wideRegions : RegionTable Backing :=
  [spanRegion cfg.platformMap.bank1 .readOnly .ext,
   spanRegion cfg.platformMap.vram .readWrite .buffer,
   spanRegion cfg.platformMap.extRam .readWrite .ext,
   spanRegion cfg.platformMap.wram .readWrite .buffer,
   spanRegion cfg.platformMap.oam .readWrite .buffer,
   spanRegion cfg.platformMap.hram .readWrite .buffer,
   spanRegion cfg.platformMap.joypad .readWrite .ext,
   spanRegion cfg.platformMap.serial .readWrite .ext,
   spanRegion cfg.platformMap.audio .readWrite .ext]

/-- The spaces of each register of the core (R131). -/
def ioCapability (r : IoReg) : Capability :=
  match r with
  | .ly => .readOnly
  | .bootOff => .writeOnly
  | .div | .tima | .tma | .tac | .irqFlags | .lcdc | .stat | .scy | .scx | .lyc | .dma | .bgp | .obp0 | .obp1 | .wy
  | .wx | .irqEnable => .readWrite

/-- The core's registers, "one region of length 1 each" (R131). -/
def registerRegions : RegionTable Backing :=
  IoReg.all.map fun r => spanRegion ⟨cfg.ioAddress r, 1⟩ (ioCapability r) (.io r)

/-- PLATFORM_MAP: the region table (R7, R130), which changes with the boot overlay (R107) and with the cartridge that is
attached. -/
def platformMap (bootActive : Bool) (bootLen : Nat) (controller : Bool) : RegionTable Backing :=
  lowRegions bootActive bootLen ++ controlRegions controller ++ wideRegions ++ registerRegions

/-- What answers a read of an address, if anything does (R110); the read space does not depend on the controller. -/
def readOwner (bootActive : Bool) (bootLen : Nat) (a : Word) : Option Backing :=
  ((platformMap bootActive bootLen false).readAt a.toNat).map Region.backing

/-- What takes a write to an address, if anything does (R111); the write space does not depend on the overlay. -/
def writeOwner (controller : Bool) (a : Word) : Option Backing :=
  ((platformMap false 0 controller).writeAt a.toNat).map Region.backing

/-- The collaborators attached include a banking controller: a ROM-only cartridge has none (R134), and an oracle may do
with a write what it likes (log entry 4). -/
def ExtDevice.hasController (e : ExtDevice) : Bool :=
  match e with
  | .romOnly _ => false
  | .oracle _ => true

/-- What owns a read of an address in a state. -/
def State.readOwner (s : State) (a : Word) : Option Backing :=
  Sys2Proof.Machine.readOwner s.bootActive s.bootImage.length a

/-- What takes a write to an address in a state. -/
def State.writeOwner (s : State) (a : Word) : Option Backing :=
  Sys2Proof.Machine.writeOwner s.ext.hasController a

/-- The mode number of the status register (R62). -/
def Mode.code (m : Mode) : BitVec 2 :=
  match m with
  | .hblank => 0#2 | .vblank => 1#2 | .search => 2#2 | .transfer => 3#2

/-- The status register: `1 :: stat_en[6:3] :: lyc_match :: mode` (R64). -/
def statByte (p : Ppu) : Byte := (1#1 ++ p.statEn ++ BitVec.ofBool p.lycMatch ++ p.mode.code : BitVec (1 + 4 + 1 + 2))

/-- The read accessor of each register. The boot-disable register is write-only and is never read (R133). -/
def ioRead (r : IoReg) (s : State) : Byte :=
  match r with
  | .div => divider s
  | .tima => s.timer.tima
  | .tma => s.timer.tma
  | .tac => (0b11111#5 ++ s.timer.tac : BitVec (5 + 3))
  | .irqFlags => (0b111#3 ++ s.irq.requested : BitVec (3 + 5))
  | .lcdc => s.ppu.lcdc
  | .stat => statByte s.ppu
  | .scy => s.ppu.scy
  | .scx => s.ppu.scx
  | .ly => s.ppu.ly
  | .lyc => s.ppu.lyc
  | .dma => s.dma.reg
  | .bgp => s.ppu.bgp
  | .obp0 => s.ppu.obp0
  | .obp1 => s.ppu.obp1
  | .wy => s.ppu.wy
  | .wx => s.ppu.wx
  | .bootOff => cfg.openBus
  | .irqEnable => (0b000#3 ++ s.irq.enabled : BitVec (3 + 5))

/-- A write to the DMA trigger starts a transfer, or starts it anew (61_devices.md R501). -/
def dmaStart (v : Byte) : Dma :=
  { active := true, src := pairOf v 0#8, index := 0, budget := 0, reg := v }

/-- The write accessor of each register. LY has no write region and is never written (R61). -/
def ioWrite (r : IoReg) (v : Byte) (s : State) : State :=
  match r with
  | .div => resetDiv s
  | .tima => { s with timer := { s.timer with tima := v } }
  | .tma => { s with timer := { s.timer with tma := v } }
  | .tac => { s with timer := { s.timer with tac := v.extractLsb' 0 3 } }
  | .irqFlags => { s with irq := { s.irq with requested := v.extractLsb' 0 5 } }
  | .lcdc => { s with ppu := { s.ppu with lcdc := v } }
  | .stat => { s with ppu := { s.ppu with statEn := v.extractLsb' 3 4 } }
  | .scy => { s with ppu := { s.ppu with scy := v } }
  | .scx => { s with ppu := { s.ppu with scx := v } }
  | .ly => s
  | .lyc => { s with ppu := { s.ppu with lyc := v } }
  | .dma => { s with dma := dmaStart v }
  | .bgp => { s with ppu := { s.ppu with bgp := v } }
  | .obp0 => { s with ppu := { s.ppu with obp0 := v } }
  | .obp1 => { s with ppu := { s.ppu with obp1 := v } }
  | .wy => { s with ppu := { s.ppu with wy := v } }
  | .wx => { s with ppu := { s.ppu with wx := v } }
  | .bootOff => if v ≠ 0#8 then { s with bootActive := false } else s
  | .irqEnable => { s with irq := { s.irq with enabled := v.extractLsb' 0 5 } }

/-- What the external collaborators answer to a read: a byte, or `none` for unmapped-read (R134). A ROM-only cartridge
answers below 0x8000 only; an oracle's answer is a free value (log entry 4). -/
def ExtDevice.answer (e : ExtDevice) (a : Word) : Option Byte :=
  match e with
  | .romOnly rom => if a.toNat < 0x8000 then some (rom.read a.toNat) else none
  | .oracle history => Config.extAnswer history a

/-- The collaborators after an access; a ROM-only cartridge ignores all of them (R134). -/
def ExtDevice.note (e : ExtDevice) (x : ExtAccess) : ExtDevice :=
  match e with
  | .romOnly rom => .romOnly rom
  | .oracle history => .oracle (x :: history)

/-- The value `MemRead` yields in a state: a byte, or `none` for unmapped-read (R110, R133). -/
def memPeek (a : Word) (s : State) : Option Byte :=
  match s.readOwner a with
  | none => none
  | some .boot => some (s.bootImage.getD (a.toNat - cfg.platformMap.bank0.start) cfg.openBus)
  | some .ext => s.ext.answer a
  | some .buffer => some (s.mem.read a.toNat)
  | some (.io r) => some (ioRead r s)

/-- What a read leaves behind: "no read in the core has a side effect on core state" (R124); an external collaborator
has seen it. -/
def memReadEffect (a : Word) (s : State) : State :=
  match s.readOwner a with
  | some .ext => { s with ext := s.ext.note (.read a) }
  | _ => s

/-- `MemRead(addr, 1)` with the substitution every reader in the core makes: `OPEN_BUS` for unmapped-read (R110, R112). -/
def memRead (a : Word) (s : State) : Byte × State := ((memPeek a s).getD cfg.openBus, memReadEffect a s)

/-- `MemWrite(addr, 1, v)`: the state after it, or `none` for unmapped-write (R111). -/
def memWrite? (a : Word) (v : Byte) (s : State) : Option State :=
  match s.writeOwner a with
  | none => none
  | some .boot => none
  | some .ext => some { s with ext := s.ext.note (.write a v) }
  | some .buffer => some { s with mem := s.mem.write a.toNat v }
  | some (.io r) => some (ioWrite r v s)

/-- `MemWrite` as its callers use it: an unmapped-write is ignored (R112). -/
def memWrite (a : Word) (v : Byte) (s : State) : State := (memWrite? a v s).getD s

/-- The base address of `oam` on the bus (R69, R130). -/
def oamBase : Nat := cfg.platformMap.oam.start

/-- The base address of `vram` on the bus (R70, R130). -/
def vramBase : Nat := cfg.platformMap.vram.start

/-- `oam[i]` (R69), as the picture generator reads it, directly (R153). -/
def State.oam (s : State) (i : Nat) : Byte := s.mem.read (oamBase + i)

/-- `vram[i]` (R70), as the picture generator reads it, directly (R153). -/
def State.vram (s : State) (i : Nat) : Byte := s.mem.read (vramBase + i)

/-- `oam[i] <- v`, as DMA writes it (61_devices.md R502); an index outside the table, which no run reaches, writes
nothing (log entry 13). -/
def State.setOam (s : State) (i : Nat) (v : Byte) : State :=
  if i < cfg.dmaLen then { s with mem := s.mem.write (oamBase + i) v } else s

end Sys2Proof.Machine
end

