-- ==== Sys2Proof/Machine/Flags.lean ====
section
/-! DEFINITION. Every flag computation of the spec: F as a byte (10_state.md R36), the condition test (30 R165), the 8-bit
adder and subtracter (42 R251, R252), the 16-bit add (43 R301), the SP-relative add (43 R305), DAA (42 R283) and the
rotates and shifts (46 R341). -/

namespace Sys2Proof.Machine

/-- A bit of a byte being assembled: 1 at position `i` if the flag is set. -/
def flagBit (i : Nat) (b : Bool) : Byte := if b then 1#8 <<< i else 0#8

/-- F as a byte, the carry flag at bit `shift` (R36). -/
def Flags.pack (shift : Nat) (f : Flags) : Byte :=
  flagBit (shift + 3) f.z ||| flagBit (shift + 2) f.n ||| flagBit (shift + 1) f.h ||| flagBit shift f.c

/-- `F <- v`: the four flags taken from a byte, its other bits dropped (R36). -/
def Flags.unpack (shift : Nat) (v : Byte) : Flags where
  z := v.getLsbD (shift + 3)
  n := v.getLsbD (shift + 2)
  h := v.getLsbD (shift + 1)
  c := v.getLsbD shift

/-- F of this machine (R36 with R7's FLAG_SHIFT). -/
def Flags.toByte (f : Flags) : Byte := f.pack cfg.flagShift

/-- `F <- v` on this machine. -/
def Flags.ofByte (v : Byte) : Flags := Flags.unpack cfg.flagShift v

/-- `cond(cc)` (R165). -/
def Flags.holds (f : Flags) (cc : Cond) : Bool :=
  match cc with
  | .nz => !f.z | .z => f.z | .nc => !f.c | .c => f.c

/-- A result with its half-carry and carry (R251, R252). -/
structure Sum8 where
  res : Byte
  h : Bool
  c : Bool
deriving DecidableEq, Repr

/-- `Add8(a, b, cin)`, over unbounded integers (R251). -/
def add8 (a b : Byte) (cin : Bool) : Sum8 :=
  let sum := a.toNat + b.toNat + cin.toNat
  { res := BitVec.ofNat 8 sum
    h := decide (a.toNat % 16 + b.toNat % 16 + cin.toNat > 15)
    c := decide (sum > 255) }

/-- `Sub8(a, b, bin)`, over unbounded signed integers (R252). -/
def sub8 (a b : Byte) (bin : Bool) : Sum8 :=
  let diff : Int := a.toNat - b.toNat - bin.toNat
  { res := BitVec.ofInt 8 diff
    h := decide (((a.toNat % 16 : Nat) : Int) - (b.toNat % 16 : Nat) - bin.toNat < 0)
    c := decide (diff < 0) }

/-- A 16-bit result with its half-carry and carry. -/
structure Sum16 where
  res : Word
  h : Bool
  c : Bool
deriving DecidableEq, Repr

/-- The sum of `ADD HL,rr`: half-carry out of bit 11, carry out of bit 15 (R301). -/
def add16 (a b : Word) : Sum16 :=
  let sum := a.toNat + b.toNat
  { res := BitVec.ofNat 16 sum
    h := decide (a.toNat % 4096 + b.toNat % 4096 > 4095)
    c := decide (sum > 65535) }

/-- `AddSpRel(sp, e)`: the flags are those of the unsigned addition of the low byte (R305). -/
def addSpRel (sp : Word) (e : Byte) : Sum16 where
  res := sp + sext16 e
  h := decide (sp.toNat % 16 + e.toNat % 16 > 15)
  c := decide (sp.toNat % 256 + e.toNat > 255)

/-- A rotated or shifted byte with the new carry (R341). -/
structure Rotated where
  res : Byte
  c : Bool
deriving DecidableEq, Repr

/-- The eight rotate and shift functions (R341). -/
def rotated (op : RotOp) (v : Byte) (cin : Bool) : Rotated :=
  match op with
  | .rlc => ⟨(v.extractLsb' 0 7 ++ v.extractLsb' 7 1 : BitVec (7 + 1)), v.getLsbD 7⟩
  | .rrc => ⟨(v.extractLsb' 0 1 ++ v.extractLsb' 1 7 : BitVec (1 + 7)), v.getLsbD 0⟩
  | .rl => ⟨(v.extractLsb' 0 7 ++ BitVec.ofBool cin : BitVec (7 + 1)), v.getLsbD 7⟩
  | .rr => ⟨(BitVec.ofBool cin ++ v.extractLsb' 1 7 : BitVec (1 + 7)), v.getLsbD 0⟩
  | .sla => ⟨(v.extractLsb' 0 7 ++ 0#1 : BitVec (7 + 1)), v.getLsbD 7⟩
  | .sra => ⟨(v.extractLsb' 7 1 ++ v.extractLsb' 1 7 : BitVec (1 + 7)), v.getLsbD 0⟩
  | .swap => ⟨(v.extractLsb' 0 4 ++ v.extractLsb' 4 4 : BitVec (4 + 4)), false⟩
  | .srl => ⟨(0#1 ++ v.extractLsb' 1 7 : BitVec (1 + 7)), v.getLsbD 0⟩

/-- What an accumulator operation leaves in A and the flags (R255 to R278). -/
structure AluOut where
  a : Byte
  f : Flags
deriving DecidableEq, Repr

/-- The flags of an addition or subtraction: Z from the result, N by the family (R250). -/
def Sum8.flags (r : Sum8) (n : Bool) : Flags where
  z := decide (r.res = 0#8)
  n := n
  h := r.h
  c := r.c

/-- The eight accumulator operations (R255 to R278). -/
def aluOut (op : AluOp) (a v : Byte) (f : Flags) : AluOut :=
  match op with
  | .add => ⟨(add8 a v false).res, (add8 a v false).flags false⟩
  | .adc => ⟨(add8 a v f.c).res, (add8 a v f.c).flags false⟩
  | .sub => ⟨(sub8 a v false).res, (sub8 a v false).flags true⟩
  | .sbc => ⟨(sub8 a v f.c).res, (sub8 a v f.c).flags true⟩
  | .and => ⟨a &&& v, { z := decide (a &&& v = 0#8), n := false, h := true, c := false }⟩
  | .xor => ⟨a ^^^ v, { z := decide (a ^^^ v = 0#8), n := false, h := false, c := false }⟩
  | .or => ⟨a ||| v, { z := decide (a ||| v = 0#8), n := false, h := false, c := false }⟩
  | .cp => ⟨a, (sub8 a v false).flags true⟩

/-- The adjustment of `DAA` after an addition: the value added and the new carry (R283). -/
def daaAdd (a : Byte) (f : Flags) : Byte × Bool :=
  let low : Byte := if f.h || decide (a.toNat % 16 > 9) then 0x06#8 else 0x00#8
  if f.c || decide (a.toNat > 0x99) then (low + 0x60#8, true) else (low, f.c)

/-- The adjustment of `DAA` after a subtraction: the value subtracted; the carry is kept (R283). -/
def daaSub (f : Flags) : Byte :=
  (if f.h then 0x06#8 else 0x00#8) + (if f.c then 0x60#8 else 0x00#8)

/-- `DAA` (R283). -/
def daaOut (a : Byte) (f : Flags) : AluOut :=
  if f.n then
    let r := a - daaSub f
    ⟨r, { f with z := decide (r = 0#8), h := false }⟩
  else
    let adj := daaAdd a f
    let r := a + adj.1
    ⟨r, { f with z := decide (r = 0#8), h := false, c := adj.2 }⟩

/-- The flags of `INC`: C unchanged (R279, R280). -/
def incFlags (v : Byte) (f : Flags) : Flags :=
  { f with z := decide (v + 1#8 = 0#8), n := false, h := decide (v.toNat % 16 = 15) }

/-- The flags of `DEC`: C unchanged (R281, R282). -/
def decFlags (v : Byte) (f : Flags) : Flags :=
  { f with z := decide (v - 1#8 = 0#8), n := true, h := decide (v.toNat % 16 = 0) }

/-- The flags of `BIT`: Z is the complement of the bit, C unchanged (R358). -/
def bitFlags (b : Fin 8) (v : Byte) (f : Flags) : Flags :=
  { f with z := !v.getLsbD b.val, n := false, h := true }

end Sys2Proof.Machine
end

