-- ==== Sys2Proof/Machine/Ops.lean ====
section
/-! DEFINITION. The named operations over registers and memory: the register file and its views (10_state.md R31 to R36),
the charged CPU primitives (00_scope.md R12), `Fatal` (60_exceptions.md R401), the interrupt dispatch and entry (R414 to
R417) and the return from an interrupt (R418), and the fetch of an instruction. -/

namespace Sys2Proof.Machine

/-- The value of an 8-bit register (R31). -/
def State.reg (s : State) (r : Reg8) : Byte :=
  match r with
  | .a => s.cpu.a | .b => s.cpu.b | .c => s.cpu.c | .d => s.cpu.d | .e => s.cpu.e | .h => s.cpu.h | .l => s.cpu.l

/-- A register file with one 8-bit register written. -/
def Cpu.setReg (c : Cpu) (r : Reg8) (v : Byte) : Cpu :=
  match r with
  | .a => { c with a := v } | .b => { c with b := v } | .c => { c with c := v } | .d => { c with d := v }
  | .e => { c with e := v } | .h => { c with h := v } | .l => { c with l := v }

/-- `r <- v` for an 8-bit register. -/
def State.setReg (s : State) (r : Reg8) (v : Byte) : State := { s with cpu := s.cpu.setReg r v }

/-- BC (R33). -/
def State.bc (s : State) : Word := pairOf s.cpu.b s.cpu.c

/-- DE (R33). -/
def State.de (s : State) : Word := pairOf s.cpu.d s.cpu.e

/-- HL (R33). -/
def State.hl (s : State) : Word := pairOf s.cpu.h s.cpu.l

/-- `HL <- w`: "writing a pair writes both halves" (R33). -/
def State.setHl (s : State) (w : Word) : State := { s with cpu := { s.cpu with h := hi w, l := lo w } }

/-- `SP <- w`. -/
def State.setSp (s : State) (w : Word) : State := { s with cpu := { s.cpu with sp := w } }

/-- `pc <- w`. -/
def State.setPc (s : State) (w : Word) : State := { s with cpu := { s.cpu with pc := w } }

/-- The flags written. -/
def State.setFlags (s : State) (f : Flags) : State := { s with cpu := { s.cpu with f := f } }

/-- `r16[p]` (R164). -/
def State.pair (s : State) (p : Pair) : Word :=
  match p with
  | .bc => s.bc | .de => s.de | .hl => s.hl | .sp => s.cpu.sp

/-- `r16[p] <- w` (R33, R164). -/
def State.setPair (s : State) (p : Pair) (w : Word) : State :=
  match p with
  | .bc => { s with cpu := { s.cpu with b := hi w, c := lo w } }
  | .de => { s with cpu := { s.cpu with d := hi w, e := lo w } }
  | .hl => s.setHl w
  | .sp => s.setSp w

/-- `r16stk[p]` (R164); AF is `A :: F` (R36, R236). -/
def State.stkPair (s : State) (p : StkPair) : Word :=
  match p with
  | .bc => s.bc | .de => s.de | .hl => s.hl | .af => pairOf s.cpu.a s.cpu.f.toByte

/-- `r16stk[p] <- w`; of the low byte of AF only the four flag bits are kept (R36, R238). -/
def State.setStkPair (s : State) (p : StkPair) (w : Word) : State :=
  match p with
  | .bc => { s with cpu := { s.cpu with b := hi w, c := lo w } }
  | .de => { s with cpu := { s.cpu with d := hi w, e := lo w } }
  | .hl => s.setHl w
  | .af => { s with cpu := { s.cpu with a := hi w, f := Flags.ofByte (lo w) } }

/-- `CpuRead(addr)`: the charge, then the read (R12; D6). -/
def cpuRead (a : Word) (s : State) : Byte × State := memRead a (tick cfg.accessCycles s)

/-- `CpuWrite(addr, v)`: the charge, then the write (R12; D6). -/
def cpuWrite (a : Word) (v : Byte) (s : State) : State := memWrite a v (tick cfg.accessCycles s)

/-- `Internal()`: a machine cycle with no bus access (R12). -/
def internal (s : State) : State := tick cfg.accessCycles s

/-- `Fetch8()`: "reads the byte at PC and then adds 1" (R12, R35). -/
def fetch8 (s : State) : Byte × State :=
  let r := cpuRead s.cpu.pc s
  (r.1, r.2.setPc (r.2.cpu.pc + 1#16))

/-- `n` times `Fetch8()`. -/
def fetchBytes (n : Nat) (s : State) : List Byte × State :=
  match n with
  | 0 => ([], s)
  | n + 1 =>
    let r := fetch8 s
    let t := fetchBytes n r.2
    (r.1 :: t.1, t.2)

/-- The fetch of a whole instruction: the opcode byte, then the operand bytes it has. Every rule of files 40 to 47 fetches
its operand bytes before any other effect (log entry 3). -/
def fetchInstr (s : State) : List Byte × State :=
  let r := fetch8 s
  let t := fetchBytes (fetchedLength r.1 - 1) r.2
  (r.1 :: t.1, t.2)

/-- `Push16(w)`: the high byte first, at the higher address (R12, R141). -/
def push16 (w : Word) (s : State) : State :=
  let s1 := s.setSp (s.cpu.sp - 1#16)
  let s2 := cpuWrite s1.cpu.sp (hi w) s1
  let s3 := s2.setSp (s2.cpu.sp - 1#16)
  cpuWrite s3.cpu.sp (lo w) s3

/-- `Pop16()`: the low byte first (R12, R141). -/
def pop16 (s : State) : Word × State :=
  let l := cpuRead s.cpu.sp s
  let s1 := l.2.setSp (l.2.cpu.sp + 1#16)
  let h := cpuRead s1.cpu.sp s1
  (pairOf h.1 l.1, h.2.setSp (h.2.cpu.sp + 1#16))

/-- `raise Fatal(reason)`: the terminal state `Stopped(reason)`, everything else kept as it is (R401; log entry 2). -/
def raiseFatal (reason : StopReason) (s : State) : State := { s with stopped := some reason }

/-- The kind is both requested and enabled (R414). -/
def State.pending (s : State) (k : IrqKind) : Bool :=
  s.irq.requested.getLsbD (cfg.irqBit k) && s.irq.enabled.getLsbD (cfg.irqBit k)

/-- "The first bit that is both requested and enabled", in priority order (R414). -/
def State.firstPending (s : State) : Option IrqKind := IrqKind.priority.find? s.pending

/-- Servicing a kind: its requested bit cleared, the global enable cleared, the CPU woken (R414). -/
def acknowledge (k : IrqKind) (s : State) : State :=
  { s with
    irq := { s.irq with requested := clearBit s.irq.requested (cfg.irqBit k), ime := false }
    cpu := { s.cpu with halted := false } }

/-- The redirection of the CPU: the charges, PC pushed, PC at the kind's vector (R414 to R417). -/
def enterInterrupt (k : IrqKind) (s : State) : State :=
  let s1 := tick cfg.irqEntryBefore s
  let s2 := push16 s1.cpu.pc s1
  let s3 := tick cfg.irqEntryAfter s2
  s3.setPc (cfg.irqVector k)

/-- `Dispatch()` (R414), in the two branches the rule insists on. -/
def dispatch (s : State) : State :=
  if !s.irq.ime && !s.cpu.halted then s
  else
    match s.firstPending with
    | none => s
    | some k => if s.irq.ime then enterInterrupt k (acknowledge k s) else acknowledge k s

/-- `a <- Pop16(); Internal(); pc <- a` (45_control.md R328). -/
def returnFromCall (s : State) : State :=
  let r := pop16 s
  (internal r.2).setPc r.1

/-- The return from an interrupt: PC popped and the global enable set (R330, R418). -/
def returnFromInterrupt (s : State) : State :=
  let t := returnFromCall s
  { t with irq := { t.irq with ime := true } }

end Sys2Proof.Machine
end

