-- ==== Sys2Proof/Machine/Operands.lean ====
section
/-! DEFINITION. The virtual 8-bit operand: `Rd(o)` and `Wr(o, v)` for every variant (30_encoding.md R163, R166). -/

namespace Sys2Proof.Machine

/-- The address of a memory operand, if it is one (R166, R167). -/
def operandAddress (o : Operand) (s : State) : Option Word :=
  match o with
  | .reg _ => none
  | .imm _ => none
  | .indBc => some s.bc
  | .indDe => some s.de
  | .indHl => some s.hl
  | .indHlInc => some s.hl
  | .indHlDec => some s.hl
  | .abs a => some a
  | .high n => some (highPage n)
  | .highC => some (highPage s.cpu.c)

/-- The extra effect of a variant, after its access: post-increment and post-decrement of HL (R166). -/
def operandAfter (o : Operand) (s : State) : State :=
  match o with
  | .indHlInc => s.setHl (s.hl + 1#16)
  | .indHlDec => s.setHl (s.hl - 1#16)
  | .reg _ => s | .imm _ => s | .indBc => s | .indDe => s | .indHl => s | .abs _ => s | .high _ => s | .highC => s

/-- The value of an operand that is no memory operand. -/
def operandValue (o : Operand) (s : State) : Byte :=
  match o with
  | .reg r => s.reg r
  | .imm v => v
  | .indBc | .indDe | .indHl | .indHlInc | .indHlDec | .abs _ | .high _ | .highC => cfg.openBus

/-- Writing an operand that is no memory operand; the immediate is "not writable" and no instruction writes it. -/
def operandWrite (o : Operand) (v : Byte) (s : State) : State :=
  match o with
  | .reg r => s.setReg r v
  | .imm _ | .indBc | .indDe | .indHl | .indHlInc | .indHlDec | .abs _ | .high _ | .highC => s

/-- `Rd(o)` (R166): a register or an immediate at no cost, a memory operand by `CpuRead`. -/
def rd (o : Operand) (s : State) : Byte × State :=
  match operandAddress o s with
  | none => (operandValue o s, s)
  | some a =>
    let r := cpuRead a s
    (r.1, operandAfter o r.2)

/-- `Wr(o, v)` (R166): a register at no cost, a memory operand by `CpuWrite`. -/
def wr (o : Operand) (v : Byte) (s : State) : State :=
  match operandAddress o s with
  | none => operandWrite o v s
  | some a => operandAfter o (cpuWrite a v s)

end Sys2Proof.Machine
end

