-- ==== Sys2Proof/Machine/Load16.lean ====
section
/-! DEFINITION. The 16-bit loads and the stack instructions (41_load16_stack.md R230 to R238). -/

namespace Sys2Proof.Machine

/-- `LD rr,d16` (R231). -/
def ldPair (p : Pair) (n : Word) (s : State) : Result := .next (s.setPair p n)

/-- `LD (a16),SP`: the low byte at `a`, the high byte at the address after it (R232). -/
def ldA16Sp (a : Word) (s : State) : Result :=
  let s1 := cpuWrite a (lo s.cpu.sp) s
  .next (cpuWrite (a + 1#16) (hi s1.cpu.sp) s1)

/-- `LD SP,HL` (R233). -/
def ldSpHl (s : State) : Result := .next (internal (s.setSp s.hl))

/-- The flags of the SP-relative forms: Z and N 0, H and C of the low byte (R234, R304). -/
def spRelFlags (r : Sum16) : Flags where
  z := false
  n := false
  h := r.h
  c := r.c

/-- `LD HL,SP+r8` (R234). -/
def ldHlSp (e : Byte) (s : State) : Result :=
  let r := addSpRel s.cpu.sp e
  .next (internal ((s.setHl r.res).setFlags (spRelFlags r)))

/-- `PUSH rr` and `PUSH AF` (R235, R236). -/
def push (p : StkPair) (s : State) : Result :=
  let s1 := internal s
  .next (push16 (s1.stkPair p) s1)

/-- `POP rr` and `POP AF` (R237, R238). -/
def pop (p : StkPair) (s : State) : Result :=
  let r := pop16 s
  .next (r.2.setStkPair p r.1)

/-- `LD BC,d16` (R231). -/
def execLdBcD16 (n : Word) (s : State) : Result := ldPair .bc n s

/-- `LD (a16),SP` (R232). -/
def execLdMA16Sp (a : Word) (s : State) : Result := ldA16Sp a s

/-- `LD DE,d16` (R231). -/
def execLdDeD16 (n : Word) (s : State) : Result := ldPair .de n s

/-- `LD HL,d16` (R231). -/
def execLdHlD16 (n : Word) (s : State) : Result := ldPair .hl n s

/-- `LD SP,d16` (R231). -/
def execLdSpD16 (n : Word) (s : State) : Result := ldPair .sp n s

/-- `POP BC` (R237). -/
def execPopBc (s : State) : Result := pop .bc s

/-- `PUSH BC` (R235). -/
def execPushBc (s : State) : Result := push .bc s

/-- `POP DE` (R237). -/
def execPopDe (s : State) : Result := pop .de s

/-- `PUSH DE` (R235). -/
def execPushDe (s : State) : Result := push .de s

/-- `POP HL` (R237). -/
def execPopHl (s : State) : Result := pop .hl s

/-- `PUSH HL` (R235). -/
def execPushHl (s : State) : Result := push .hl s

/-- `POP AF` (R238). -/
def execPopAf (s : State) : Result := pop .af s

/-- `PUSH AF` (R236). -/
def execPushAf (s : State) : Result := push .af s

/-- `LD HL,SP+r8` (R234). -/
def execLdHlSpR8 (e : Byte) (s : State) : Result := ldHlSp e s

/-- `LD SP,HL` (R233). -/
def execLdSpHl (s : State) : Result := ldSpHl s

end Sys2Proof.Machine
end

