-- ==== Sys2Proof/Machine/Alu16.lean ====
section
/-! DEFINITION. The 16-bit arithmetic instructions (43_alu16.md R300 to R305). -/

namespace Sys2Proof.Machine

/-- `ADD HL,rr`: Z unchanged (R301). -/
def addHl (p : Pair) (s : State) : Result :=
  let r := add16 s.hl (s.pair p)
  .next (internal ((s.setHl r.res).setFlags { s.cpu.f with n := false, h := r.h, c := r.c }))

/-- `INC rr`: no flag (R302). -/
def incPair (p : Pair) (s : State) : Result := .next (internal (s.setPair p (s.pair p + 1#16)))

/-- `DEC rr`: no flag (R303). -/
def decPair (p : Pair) (s : State) : Result := .next (internal (s.setPair p (s.pair p - 1#16)))

/-- `ADD SP,r8` (R304). -/
def addSp (e : Byte) (s : State) : Result :=
  let r := addSpRel s.cpu.sp e
  .next (internal (internal ((s.setSp r.res).setFlags (spRelFlags r))))

/-- `INC BC` (R302). -/
def execIncBc (s : State) : Result := incPair .bc s

/-- `ADD HL,BC` (R301). -/
def execAddHlBc (s : State) : Result := addHl .bc s

/-- `DEC BC` (R303). -/
def execDecBc (s : State) : Result := decPair .bc s

/-- `INC DE` (R302). -/
def execIncDe (s : State) : Result := incPair .de s

/-- `ADD HL,DE` (R301). -/
def execAddHlDe (s : State) : Result := addHl .de s

/-- `DEC DE` (R303). -/
def execDecDe (s : State) : Result := decPair .de s

/-- `INC HL` (R302). -/
def execIncHl (s : State) : Result := incPair .hl s

/-- `ADD HL,HL` (R301). -/
def execAddHlHl (s : State) : Result := addHl .hl s

/-- `DEC HL` (R303). -/
def execDecHl (s : State) : Result := decPair .hl s

/-- `INC SP` (R302). -/
def execIncSp (s : State) : Result := incPair .sp s

/-- `ADD HL,SP` (R301). -/
def execAddHlSp (s : State) : Result := addHl .sp s

/-- `DEC SP` (R303). -/
def execDecSp (s : State) : Result := decPair .sp s

/-- `ADD SP,r8` (R304). -/
def execAddSpR8 (e : Byte) (s : State) : Result := addSp e s

end Sys2Proof.Machine
end

