-- ==== Sys2Proof/Machine/Alu8.lean ====
section
/-! DEFINITION. The 8-bit arithmetic and logic instructions (42_alu8.md R250 to R286). -/

namespace Sys2Proof.Machine

/-- An accumulator operation: the operand read, A and the flags written (R255 to R278). -/
def alu (op : AluOp) (o : Operand) (s : State) : Result :=
  let r := rd o s
  let out := aluOut op r.2.cpu.a r.1 r.2.cpu.f
  .next ((r.2.setReg .a out.a).setFlags out.f)

/-- `INC r`, `INC (HL)`: the operand read and written back plus one (R279, R280). -/
def inc8 (o : Operand) (s : State) : Result :=
  let r := rd o s
  .next ((wr o (r.1 + 1#8) r.2).setFlags (incFlags r.1 s.cpu.f))

/-- `DEC r`, `DEC (HL)`: the operand read and written back minus one (R281, R282). -/
def dec8 (o : Operand) (s : State) : Result :=
  let r := rd o s
  .next ((wr o (r.1 - 1#8) r.2).setFlags (decFlags r.1 s.cpu.f))

/-- `DAA` (R283). -/
def daa (s : State) : Result :=
  let out := daaOut s.cpu.a s.cpu.f
  .next ((s.setReg .a out.a).setFlags out.f)

/-- `CPL` (R284). -/
def cpl (s : State) : Result :=
  .next ((s.setReg .a (s.cpu.a ^^^ 0xFF#8)).setFlags { s.cpu.f with n := true, h := true })

/-- `SCF` (R285). -/
def scf (s : State) : Result := .next (s.setFlags { s.cpu.f with n := false, h := false, c := true })

/-- `CCF` (R286). -/
def ccf (s : State) : Result := .next (s.setFlags { s.cpu.f with n := false, h := false, c := !s.cpu.f.c })

/-- `INC B` (R279). -/
def execIncB (s : State) : Result := inc8 (.reg .b) s

/-- `DEC B` (R281). -/
def execDecB (s : State) : Result := dec8 (.reg .b) s

/-- `INC C` (R279). -/
def execIncC (s : State) : Result := inc8 (.reg .c) s

/-- `DEC C` (R281). -/
def execDecC (s : State) : Result := dec8 (.reg .c) s

/-- `INC D` (R279). -/
def execIncD (s : State) : Result := inc8 (.reg .d) s

/-- `DEC D` (R281). -/
def execDecD (s : State) : Result := dec8 (.reg .d) s

/-- `INC E` (R279). -/
def execIncE (s : State) : Result := inc8 (.reg .e) s

/-- `DEC E` (R281). -/
def execDecE (s : State) : Result := dec8 (.reg .e) s

/-- `INC H` (R279). -/
def execIncH (s : State) : Result := inc8 (.reg .h) s

/-- `DEC H` (R281). -/
def execDecH (s : State) : Result := dec8 (.reg .h) s

/-- `DAA` (R283). -/
def execDaa (s : State) : Result := daa s

/-- `INC L` (R279). -/
def execIncL (s : State) : Result := inc8 (.reg .l) s

/-- `DEC L` (R281). -/
def execDecL (s : State) : Result := dec8 (.reg .l) s

/-- `CPL` (R284). -/
def execCpl (s : State) : Result := cpl s

/-- `INC (HL)` (R280). -/
def execIncMHl (s : State) : Result := inc8 .indHl s

/-- `DEC (HL)` (R282). -/
def execDecMHl (s : State) : Result := dec8 .indHl s

/-- `SCF` (R285). -/
def execScf (s : State) : Result := scf s

/-- `INC A` (R279). -/
def execIncA (s : State) : Result := inc8 (.reg .a) s

/-- `DEC A` (R281). -/
def execDecA (s : State) : Result := dec8 (.reg .a) s

/-- `CCF` (R286). -/
def execCcf (s : State) : Result := ccf s

/-- `ADD A,B` (R255). -/
def execAddAB (s : State) : Result := alu .add (.reg .b) s

/-- `ADD A,C` (R255). -/
def execAddAC (s : State) : Result := alu .add (.reg .c) s

/-- `ADD A,D` (R255). -/
def execAddAD (s : State) : Result := alu .add (.reg .d) s

/-- `ADD A,E` (R255). -/
def execAddAE (s : State) : Result := alu .add (.reg .e) s

/-- `ADD A,H` (R255). -/
def execAddAH (s : State) : Result := alu .add (.reg .h) s

/-- `ADD A,L` (R255). -/
def execAddAL (s : State) : Result := alu .add (.reg .l) s

/-- `ADD A,(HL)` (R256). -/
def execAddAMHl (s : State) : Result := alu .add .indHl s

/-- `ADD A,A` (R255). -/
def execAddAA (s : State) : Result := alu .add (.reg .a) s

/-- `ADC A,B` (R258). -/
def execAdcAB (s : State) : Result := alu .adc (.reg .b) s

/-- `ADC A,C` (R258). -/
def execAdcAC (s : State) : Result := alu .adc (.reg .c) s

/-- `ADC A,D` (R258). -/
def execAdcAD (s : State) : Result := alu .adc (.reg .d) s

/-- `ADC A,E` (R258). -/
def execAdcAE (s : State) : Result := alu .adc (.reg .e) s

/-- `ADC A,H` (R258). -/
def execAdcAH (s : State) : Result := alu .adc (.reg .h) s

/-- `ADC A,L` (R258). -/
def execAdcAL (s : State) : Result := alu .adc (.reg .l) s

/-- `ADC A,(HL)` (R259). -/
def execAdcAMHl (s : State) : Result := alu .adc .indHl s

/-- `ADC A,A` (R258). -/
def execAdcAA (s : State) : Result := alu .adc (.reg .a) s

/-- `SUB B` (R261). -/
def execSubB (s : State) : Result := alu .sub (.reg .b) s

/-- `SUB C` (R261). -/
def execSubC (s : State) : Result := alu .sub (.reg .c) s

/-- `SUB D` (R261). -/
def execSubD (s : State) : Result := alu .sub (.reg .d) s

/-- `SUB E` (R261). -/
def execSubE (s : State) : Result := alu .sub (.reg .e) s

/-- `SUB H` (R261). -/
def execSubH (s : State) : Result := alu .sub (.reg .h) s

/-- `SUB L` (R261). -/
def execSubL (s : State) : Result := alu .sub (.reg .l) s

/-- `SUB (HL)` (R262). -/
def execSubMHl (s : State) : Result := alu .sub .indHl s

/-- `SUB A` (R261). -/
def execSubA (s : State) : Result := alu .sub (.reg .a) s

/-- `SBC A,B` (R264). -/
def execSbcAB (s : State) : Result := alu .sbc (.reg .b) s

/-- `SBC A,C` (R264). -/
def execSbcAC (s : State) : Result := alu .sbc (.reg .c) s

/-- `SBC A,D` (R264). -/
def execSbcAD (s : State) : Result := alu .sbc (.reg .d) s

/-- `SBC A,E` (R264). -/
def execSbcAE (s : State) : Result := alu .sbc (.reg .e) s

/-- `SBC A,H` (R264). -/
def execSbcAH (s : State) : Result := alu .sbc (.reg .h) s

/-- `SBC A,L` (R264). -/
def execSbcAL (s : State) : Result := alu .sbc (.reg .l) s

/-- `SBC A,(HL)` (R265). -/
def execSbcAMHl (s : State) : Result := alu .sbc .indHl s

/-- `SBC A,A` (R264). -/
def execSbcAA (s : State) : Result := alu .sbc (.reg .a) s

/-- `AND B` (R267). -/
def execAndB (s : State) : Result := alu .and (.reg .b) s

/-- `AND C` (R267). -/
def execAndC (s : State) : Result := alu .and (.reg .c) s

/-- `AND D` (R267). -/
def execAndD (s : State) : Result := alu .and (.reg .d) s

/-- `AND E` (R267). -/
def execAndE (s : State) : Result := alu .and (.reg .e) s

/-- `AND H` (R267). -/
def execAndH (s : State) : Result := alu .and (.reg .h) s

/-- `AND L` (R267). -/
def execAndL (s : State) : Result := alu .and (.reg .l) s

/-- `AND (HL)` (R268). -/
def execAndMHl (s : State) : Result := alu .and .indHl s

/-- `AND A` (R267). -/
def execAndA (s : State) : Result := alu .and (.reg .a) s

/-- `XOR B` (R270). -/
def execXorB (s : State) : Result := alu .xor (.reg .b) s

/-- `XOR C` (R270). -/
def execXorC (s : State) : Result := alu .xor (.reg .c) s

/-- `XOR D` (R270). -/
def execXorD (s : State) : Result := alu .xor (.reg .d) s

/-- `XOR E` (R270). -/
def execXorE (s : State) : Result := alu .xor (.reg .e) s

/-- `XOR H` (R270). -/
def execXorH (s : State) : Result := alu .xor (.reg .h) s

/-- `XOR L` (R270). -/
def execXorL (s : State) : Result := alu .xor (.reg .l) s

/-- `XOR (HL)` (R271). -/
def execXorMHl (s : State) : Result := alu .xor .indHl s

/-- `XOR A` (R270). -/
def execXorA (s : State) : Result := alu .xor (.reg .a) s

/-- `OR B` (R273). -/
def execOrB (s : State) : Result := alu .or (.reg .b) s

/-- `OR C` (R273). -/
def execOrC (s : State) : Result := alu .or (.reg .c) s

/-- `OR D` (R273). -/
def execOrD (s : State) : Result := alu .or (.reg .d) s

/-- `OR E` (R273). -/
def execOrE (s : State) : Result := alu .or (.reg .e) s

/-- `OR H` (R273). -/
def execOrH (s : State) : Result := alu .or (.reg .h) s

/-- `OR L` (R273). -/
def execOrL (s : State) : Result := alu .or (.reg .l) s

/-- `OR (HL)` (R274). -/
def execOrMHl (s : State) : Result := alu .or .indHl s

/-- `OR A` (R273). -/
def execOrA (s : State) : Result := alu .or (.reg .a) s

/-- `CP B` (R276). -/
def execCpB (s : State) : Result := alu .cp (.reg .b) s

/-- `CP C` (R276). -/
def execCpC (s : State) : Result := alu .cp (.reg .c) s

/-- `CP D` (R276). -/
def execCpD (s : State) : Result := alu .cp (.reg .d) s

/-- `CP E` (R276). -/
def execCpE (s : State) : Result := alu .cp (.reg .e) s

/-- `CP H` (R276). -/
def execCpH (s : State) : Result := alu .cp (.reg .h) s

/-- `CP L` (R276). -/
def execCpL (s : State) : Result := alu .cp (.reg .l) s

/-- `CP (HL)` (R277). -/
def execCpMHl (s : State) : Result := alu .cp .indHl s

/-- `CP A` (R276). -/
def execCpA (s : State) : Result := alu .cp (.reg .a) s

/-- `ADD A,d8` (R257). -/
def execAddAD8 (n : Byte) (s : State) : Result := alu .add (.imm n) s

/-- `ADC A,d8` (R260). -/
def execAdcAD8 (n : Byte) (s : State) : Result := alu .adc (.imm n) s

/-- `SUB d8` (R263). -/
def execSubD8 (n : Byte) (s : State) : Result := alu .sub (.imm n) s

/-- `SBC A,d8` (R266). -/
def execSbcAD8 (n : Byte) (s : State) : Result := alu .sbc (.imm n) s

/-- `AND d8` (R269). -/
def execAndD8 (n : Byte) (s : State) : Result := alu .and (.imm n) s

/-- `XOR d8` (R272). -/
def execXorD8 (n : Byte) (s : State) : Result := alu .xor (.imm n) s

/-- `OR d8` (R275). -/
def execOrD8 (n : Byte) (s : State) : Result := alu .or (.imm n) s

/-- `CP d8` (R278). -/
def execCpD8 (n : Byte) (s : State) : Result := alu .cp (.imm n) s

end Sys2Proof.Machine
end

