-- ==== Sys2Proof/Machine/CbBitops.lean ====
section
/-! DEFINITION. The extended rotates, shifts and bit operations (46_cb_bitops.md R340 to R363). -/

namespace Sys2Proof.Machine

/-- The flags of group 0: Z from the result, N and H 0, C the new carry (R341). -/
def Rotated.flags (r : Rotated) : Flags where
  z := decide (r.res = 0#8)
  n := false
  h := false
  c := r.c

/-- A rotate or shift of an operand (R342 to R357). -/
def rotate (op : RotOp) (o : Operand) (s : State) : Result :=
  let v := rd o s
  let r := rotated op v.1 v.2.cpu.f.c
  .next ((wr o r.res v.2).setFlags r.flags)

/-- `BIT b,x`: the operand is not written (R358, R359). -/
def bitTest (b : Fin 8) (o : Operand) (s : State) : Result :=
  let v := rd o s
  .next (v.2.setFlags (bitFlags b v.1 v.2.cpu.f))

/-- `RES b,x`: the write happens even when the value is unchanged (R360, R361). -/
def bitReset (b : Fin 8) (o : Operand) (s : State) : Result :=
  let v := rd o s
  .next (wr o (clearBit v.1 b.val) v.2)

/-- `SET b,x` (R362, R363). -/
def bitSet (b : Fin 8) (o : Operand) (s : State) : Result :=
  let v := rd o s
  .next (wr o (setBit v.1 b.val) v.2)

/-- `RLC B` (R342). -/
def execRlcB (s : State) : Result := rotate .rlc (.reg .b) s

/-- `RLC C` (R342). -/
def execRlcC (s : State) : Result := rotate .rlc (.reg .c) s

/-- `RLC D` (R342). -/
def execRlcD (s : State) : Result := rotate .rlc (.reg .d) s

/-- `RLC E` (R342). -/
def execRlcE (s : State) : Result := rotate .rlc (.reg .e) s

/-- `RLC H` (R342). -/
def execRlcH (s : State) : Result := rotate .rlc (.reg .h) s

/-- `RLC L` (R342). -/
def execRlcL (s : State) : Result := rotate .rlc (.reg .l) s

/-- `RLC (HL)` (R343). -/
def execRlcMHl (s : State) : Result := rotate .rlc .indHl s

/-- `RLC A` (R342). -/
def execRlcA (s : State) : Result := rotate .rlc (.reg .a) s

/-- `RRC B` (R344). -/
def execRrcB (s : State) : Result := rotate .rrc (.reg .b) s

/-- `RRC C` (R344). -/
def execRrcC (s : State) : Result := rotate .rrc (.reg .c) s

/-- `RRC D` (R344). -/
def execRrcD (s : State) : Result := rotate .rrc (.reg .d) s

/-- `RRC E` (R344). -/
def execRrcE (s : State) : Result := rotate .rrc (.reg .e) s

/-- `RRC H` (R344). -/
def execRrcH (s : State) : Result := rotate .rrc (.reg .h) s

/-- `RRC L` (R344). -/
def execRrcL (s : State) : Result := rotate .rrc (.reg .l) s

/-- `RRC (HL)` (R345). -/
def execRrcMHl (s : State) : Result := rotate .rrc .indHl s

/-- `RRC A` (R344). -/
def execRrcA (s : State) : Result := rotate .rrc (.reg .a) s

/-- `RL B` (R346). -/
def execRlB (s : State) : Result := rotate .rl (.reg .b) s

/-- `RL C` (R346). -/
def execRlC (s : State) : Result := rotate .rl (.reg .c) s

/-- `RL D` (R346). -/
def execRlD (s : State) : Result := rotate .rl (.reg .d) s

/-- `RL E` (R346). -/
def execRlE (s : State) : Result := rotate .rl (.reg .e) s

/-- `RL H` (R346). -/
def execRlH (s : State) : Result := rotate .rl (.reg .h) s

/-- `RL L` (R346). -/
def execRlL (s : State) : Result := rotate .rl (.reg .l) s

/-- `RL (HL)` (R347). -/
def execRlMHl (s : State) : Result := rotate .rl .indHl s

/-- `RL A` (R346). -/
def execRlA (s : State) : Result := rotate .rl (.reg .a) s

/-- `RR B` (R348). -/
def execRrB (s : State) : Result := rotate .rr (.reg .b) s

/-- `RR C` (R348). -/
def execRrC (s : State) : Result := rotate .rr (.reg .c) s

/-- `RR D` (R348). -/
def execRrD (s : State) : Result := rotate .rr (.reg .d) s

/-- `RR E` (R348). -/
def execRrE (s : State) : Result := rotate .rr (.reg .e) s

/-- `RR H` (R348). -/
def execRrH (s : State) : Result := rotate .rr (.reg .h) s

/-- `RR L` (R348). -/
def execRrL (s : State) : Result := rotate .rr (.reg .l) s

/-- `RR (HL)` (R349). -/
def execRrMHl (s : State) : Result := rotate .rr .indHl s

/-- `RR A` (R348). -/
def execRrA (s : State) : Result := rotate .rr (.reg .a) s

/-- `SLA B` (R350). -/
def execSlaB (s : State) : Result := rotate .sla (.reg .b) s

/-- `SLA C` (R350). -/
def execSlaC (s : State) : Result := rotate .sla (.reg .c) s

/-- `SLA D` (R350). -/
def execSlaD (s : State) : Result := rotate .sla (.reg .d) s

/-- `SLA E` (R350). -/
def execSlaE (s : State) : Result := rotate .sla (.reg .e) s

/-- `SLA H` (R350). -/
def execSlaH (s : State) : Result := rotate .sla (.reg .h) s

/-- `SLA L` (R350). -/
def execSlaL (s : State) : Result := rotate .sla (.reg .l) s

/-- `SLA (HL)` (R351). -/
def execSlaMHl (s : State) : Result := rotate .sla .indHl s

/-- `SLA A` (R350). -/
def execSlaA (s : State) : Result := rotate .sla (.reg .a) s

/-- `SRA B` (R352). -/
def execSraB (s : State) : Result := rotate .sra (.reg .b) s

/-- `SRA C` (R352). -/
def execSraC (s : State) : Result := rotate .sra (.reg .c) s

/-- `SRA D` (R352). -/
def execSraD (s : State) : Result := rotate .sra (.reg .d) s

/-- `SRA E` (R352). -/
def execSraE (s : State) : Result := rotate .sra (.reg .e) s

/-- `SRA H` (R352). -/
def execSraH (s : State) : Result := rotate .sra (.reg .h) s

/-- `SRA L` (R352). -/
def execSraL (s : State) : Result := rotate .sra (.reg .l) s

/-- `SRA (HL)` (R353). -/
def execSraMHl (s : State) : Result := rotate .sra .indHl s

/-- `SRA A` (R352). -/
def execSraA (s : State) : Result := rotate .sra (.reg .a) s

/-- `SWAP B` (R354). -/
def execSwapB (s : State) : Result := rotate .swap (.reg .b) s

/-- `SWAP C` (R354). -/
def execSwapC (s : State) : Result := rotate .swap (.reg .c) s

/-- `SWAP D` (R354). -/
def execSwapD (s : State) : Result := rotate .swap (.reg .d) s

/-- `SWAP E` (R354). -/
def execSwapE (s : State) : Result := rotate .swap (.reg .e) s

/-- `SWAP H` (R354). -/
def execSwapH (s : State) : Result := rotate .swap (.reg .h) s

/-- `SWAP L` (R354). -/
def execSwapL (s : State) : Result := rotate .swap (.reg .l) s

/-- `SWAP (HL)` (R355). -/
def execSwapMHl (s : State) : Result := rotate .swap .indHl s

/-- `SWAP A` (R354). -/
def execSwapA (s : State) : Result := rotate .swap (.reg .a) s

/-- `SRL B` (R356). -/
def execSrlB (s : State) : Result := rotate .srl (.reg .b) s

/-- `SRL C` (R356). -/
def execSrlC (s : State) : Result := rotate .srl (.reg .c) s

/-- `SRL D` (R356). -/
def execSrlD (s : State) : Result := rotate .srl (.reg .d) s

/-- `SRL E` (R356). -/
def execSrlE (s : State) : Result := rotate .srl (.reg .e) s

/-- `SRL H` (R356). -/
def execSrlH (s : State) : Result := rotate .srl (.reg .h) s

/-- `SRL L` (R356). -/
def execSrlL (s : State) : Result := rotate .srl (.reg .l) s

/-- `SRL (HL)` (R357). -/
def execSrlMHl (s : State) : Result := rotate .srl .indHl s

/-- `SRL A` (R356). -/
def execSrlA (s : State) : Result := rotate .srl (.reg .a) s

/-- `BIT 0,B` (R358). -/
def execBit0B (s : State) : Result := bitTest 0 (.reg .b) s

/-- `BIT 0,C` (R358). -/
def execBit0C (s : State) : Result := bitTest 0 (.reg .c) s

/-- `BIT 0,D` (R358). -/
def execBit0D (s : State) : Result := bitTest 0 (.reg .d) s

/-- `BIT 0,E` (R358). -/
def execBit0E (s : State) : Result := bitTest 0 (.reg .e) s

/-- `BIT 0,H` (R358). -/
def execBit0H (s : State) : Result := bitTest 0 (.reg .h) s

/-- `BIT 0,L` (R358). -/
def execBit0L (s : State) : Result := bitTest 0 (.reg .l) s

/-- `BIT 0,(HL)` (R359). -/
def execBit0MHl (s : State) : Result := bitTest 0 .indHl s

/-- `BIT 0,A` (R358). -/
def execBit0A (s : State) : Result := bitTest 0 (.reg .a) s

/-- `BIT 1,B` (R358). -/
def execBit1B (s : State) : Result := bitTest 1 (.reg .b) s

/-- `BIT 1,C` (R358). -/
def execBit1C (s : State) : Result := bitTest 1 (.reg .c) s

/-- `BIT 1,D` (R358). -/
def execBit1D (s : State) : Result := bitTest 1 (.reg .d) s

/-- `BIT 1,E` (R358). -/
def execBit1E (s : State) : Result := bitTest 1 (.reg .e) s

/-- `BIT 1,H` (R358). -/
def execBit1H (s : State) : Result := bitTest 1 (.reg .h) s

/-- `BIT 1,L` (R358). -/
def execBit1L (s : State) : Result := bitTest 1 (.reg .l) s

/-- `BIT 1,(HL)` (R359). -/
def execBit1MHl (s : State) : Result := bitTest 1 .indHl s

/-- `BIT 1,A` (R358). -/
def execBit1A (s : State) : Result := bitTest 1 (.reg .a) s

/-- `BIT 2,B` (R358). -/
def execBit2B (s : State) : Result := bitTest 2 (.reg .b) s

/-- `BIT 2,C` (R358). -/
def execBit2C (s : State) : Result := bitTest 2 (.reg .c) s

/-- `BIT 2,D` (R358). -/
def execBit2D (s : State) : Result := bitTest 2 (.reg .d) s

/-- `BIT 2,E` (R358). -/
def execBit2E (s : State) : Result := bitTest 2 (.reg .e) s

/-- `BIT 2,H` (R358). -/
def execBit2H (s : State) : Result := bitTest 2 (.reg .h) s

/-- `BIT 2,L` (R358). -/
def execBit2L (s : State) : Result := bitTest 2 (.reg .l) s

/-- `BIT 2,(HL)` (R359). -/
def execBit2MHl (s : State) : Result := bitTest 2 .indHl s

/-- `BIT 2,A` (R358). -/
def execBit2A (s : State) : Result := bitTest 2 (.reg .a) s

/-- `BIT 3,B` (R358). -/
def execBit3B (s : State) : Result := bitTest 3 (.reg .b) s

/-- `BIT 3,C` (R358). -/
def execBit3C (s : State) : Result := bitTest 3 (.reg .c) s

/-- `BIT 3,D` (R358). -/
def execBit3D (s : State) : Result := bitTest 3 (.reg .d) s

/-- `BIT 3,E` (R358). -/
def execBit3E (s : State) : Result := bitTest 3 (.reg .e) s

/-- `BIT 3,H` (R358). -/
def execBit3H (s : State) : Result := bitTest 3 (.reg .h) s

/-- `BIT 3,L` (R358). -/
def execBit3L (s : State) : Result := bitTest 3 (.reg .l) s

/-- `BIT 3,(HL)` (R359). -/
def execBit3MHl (s : State) : Result := bitTest 3 .indHl s

/-- `BIT 3,A` (R358). -/
def execBit3A (s : State) : Result := bitTest 3 (.reg .a) s

/-- `BIT 4,B` (R358). -/
def execBit4B (s : State) : Result := bitTest 4 (.reg .b) s

/-- `BIT 4,C` (R358). -/
def execBit4C (s : State) : Result := bitTest 4 (.reg .c) s

/-- `BIT 4,D` (R358). -/
def execBit4D (s : State) : Result := bitTest 4 (.reg .d) s

/-- `BIT 4,E` (R358). -/
def execBit4E (s : State) : Result := bitTest 4 (.reg .e) s

/-- `BIT 4,H` (R358). -/
def execBit4H (s : State) : Result := bitTest 4 (.reg .h) s

/-- `BIT 4,L` (R358). -/
def execBit4L (s : State) : Result := bitTest 4 (.reg .l) s

/-- `BIT 4,(HL)` (R359). -/
def execBit4MHl (s : State) : Result := bitTest 4 .indHl s

/-- `BIT 4,A` (R358). -/
def execBit4A (s : State) : Result := bitTest 4 (.reg .a) s

/-- `BIT 5,B` (R358). -/
def execBit5B (s : State) : Result := bitTest 5 (.reg .b) s

/-- `BIT 5,C` (R358). -/
def execBit5C (s : State) : Result := bitTest 5 (.reg .c) s

/-- `BIT 5,D` (R358). -/
def execBit5D (s : State) : Result := bitTest 5 (.reg .d) s

/-- `BIT 5,E` (R358). -/
def execBit5E (s : State) : Result := bitTest 5 (.reg .e) s

/-- `BIT 5,H` (R358). -/
def execBit5H (s : State) : Result := bitTest 5 (.reg .h) s

/-- `BIT 5,L` (R358). -/
def execBit5L (s : State) : Result := bitTest 5 (.reg .l) s

/-- `BIT 5,(HL)` (R359). -/
def execBit5MHl (s : State) : Result := bitTest 5 .indHl s

/-- `BIT 5,A` (R358). -/
def execBit5A (s : State) : Result := bitTest 5 (.reg .a) s

/-- `BIT 6,B` (R358). -/
def execBit6B (s : State) : Result := bitTest 6 (.reg .b) s

/-- `BIT 6,C` (R358). -/
def execBit6C (s : State) : Result := bitTest 6 (.reg .c) s

/-- `BIT 6,D` (R358). -/
def execBit6D (s : State) : Result := bitTest 6 (.reg .d) s

/-- `BIT 6,E` (R358). -/
def execBit6E (s : State) : Result := bitTest 6 (.reg .e) s

/-- `BIT 6,H` (R358). -/
def execBit6H (s : State) : Result := bitTest 6 (.reg .h) s

/-- `BIT 6,L` (R358). -/
def execBit6L (s : State) : Result := bitTest 6 (.reg .l) s

/-- `BIT 6,(HL)` (R359). -/
def execBit6MHl (s : State) : Result := bitTest 6 .indHl s

/-- `BIT 6,A` (R358). -/
def execBit6A (s : State) : Result := bitTest 6 (.reg .a) s

/-- `BIT 7,B` (R358). -/
def execBit7B (s : State) : Result := bitTest 7 (.reg .b) s

/-- `BIT 7,C` (R358). -/
def execBit7C (s : State) : Result := bitTest 7 (.reg .c) s

/-- `BIT 7,D` (R358). -/
def execBit7D (s : State) : Result := bitTest 7 (.reg .d) s

/-- `BIT 7,E` (R358). -/
def execBit7E (s : State) : Result := bitTest 7 (.reg .e) s

/-- `BIT 7,H` (R358). -/
def execBit7H (s : State) : Result := bitTest 7 (.reg .h) s

/-- `BIT 7,L` (R358). -/
def execBit7L (s : State) : Result := bitTest 7 (.reg .l) s

/-- `BIT 7,(HL)` (R359). -/
def execBit7MHl (s : State) : Result := bitTest 7 .indHl s

/-- `BIT 7,A` (R358). -/
def execBit7A (s : State) : Result := bitTest 7 (.reg .a) s

/-- `RES 0,B` (R360). -/
def execRes0B (s : State) : Result := bitReset 0 (.reg .b) s

/-- `RES 0,C` (R360). -/
def execRes0C (s : State) : Result := bitReset 0 (.reg .c) s

/-- `RES 0,D` (R360). -/
def execRes0D (s : State) : Result := bitReset 0 (.reg .d) s

/-- `RES 0,E` (R360). -/
def execRes0E (s : State) : Result := bitReset 0 (.reg .e) s

/-- `RES 0,H` (R360). -/
def execRes0H (s : State) : Result := bitReset 0 (.reg .h) s

/-- `RES 0,L` (R360). -/
def execRes0L (s : State) : Result := bitReset 0 (.reg .l) s

/-- `RES 0,(HL)` (R361). -/
def execRes0MHl (s : State) : Result := bitReset 0 .indHl s

/-- `RES 0,A` (R360). -/
def execRes0A (s : State) : Result := bitReset 0 (.reg .a) s

/-- `RES 1,B` (R360). -/
def execRes1B (s : State) : Result := bitReset 1 (.reg .b) s

/-- `RES 1,C` (R360). -/
def execRes1C (s : State) : Result := bitReset 1 (.reg .c) s

/-- `RES 1,D` (R360). -/
def execRes1D (s : State) : Result := bitReset 1 (.reg .d) s

/-- `RES 1,E` (R360). -/
def execRes1E (s : State) : Result := bitReset 1 (.reg .e) s

/-- `RES 1,H` (R360). -/
def execRes1H (s : State) : Result := bitReset 1 (.reg .h) s

/-- `RES 1,L` (R360). -/
def execRes1L (s : State) : Result := bitReset 1 (.reg .l) s

/-- `RES 1,(HL)` (R361). -/
def execRes1MHl (s : State) : Result := bitReset 1 .indHl s

/-- `RES 1,A` (R360). -/
def execRes1A (s : State) : Result := bitReset 1 (.reg .a) s

/-- `RES 2,B` (R360). -/
def execRes2B (s : State) : Result := bitReset 2 (.reg .b) s

/-- `RES 2,C` (R360). -/
def execRes2C (s : State) : Result := bitReset 2 (.reg .c) s

/-- `RES 2,D` (R360). -/
def execRes2D (s : State) : Result := bitReset 2 (.reg .d) s

/-- `RES 2,E` (R360). -/
def execRes2E (s : State) : Result := bitReset 2 (.reg .e) s

/-- `RES 2,H` (R360). -/
def execRes2H (s : State) : Result := bitReset 2 (.reg .h) s

/-- `RES 2,L` (R360). -/
def execRes2L (s : State) : Result := bitReset 2 (.reg .l) s

/-- `RES 2,(HL)` (R361). -/
def execRes2MHl (s : State) : Result := bitReset 2 .indHl s

/-- `RES 2,A` (R360). -/
def execRes2A (s : State) : Result := bitReset 2 (.reg .a) s

/-- `RES 3,B` (R360). -/
def execRes3B (s : State) : Result := bitReset 3 (.reg .b) s

/-- `RES 3,C` (R360). -/
def execRes3C (s : State) : Result := bitReset 3 (.reg .c) s

/-- `RES 3,D` (R360). -/
def execRes3D (s : State) : Result := bitReset 3 (.reg .d) s

/-- `RES 3,E` (R360). -/
def execRes3E (s : State) : Result := bitReset 3 (.reg .e) s

/-- `RES 3,H` (R360). -/
def execRes3H (s : State) : Result := bitReset 3 (.reg .h) s

/-- `RES 3,L` (R360). -/
def execRes3L (s : State) : Result := bitReset 3 (.reg .l) s

/-- `RES 3,(HL)` (R361). -/
def execRes3MHl (s : State) : Result := bitReset 3 .indHl s

/-- `RES 3,A` (R360). -/
def execRes3A (s : State) : Result := bitReset 3 (.reg .a) s

/-- `RES 4,B` (R360). -/
def execRes4B (s : State) : Result := bitReset 4 (.reg .b) s

/-- `RES 4,C` (R360). -/
def execRes4C (s : State) : Result := bitReset 4 (.reg .c) s

/-- `RES 4,D` (R360). -/
def execRes4D (s : State) : Result := bitReset 4 (.reg .d) s

/-- `RES 4,E` (R360). -/
def execRes4E (s : State) : Result := bitReset 4 (.reg .e) s

/-- `RES 4,H` (R360). -/
def execRes4H (s : State) : Result := bitReset 4 (.reg .h) s

/-- `RES 4,L` (R360). -/
def execRes4L (s : State) : Result := bitReset 4 (.reg .l) s

/-- `RES 4,(HL)` (R361). -/
def execRes4MHl (s : State) : Result := bitReset 4 .indHl s

/-- `RES 4,A` (R360). -/
def execRes4A (s : State) : Result := bitReset 4 (.reg .a) s

/-- `RES 5,B` (R360). -/
def execRes5B (s : State) : Result := bitReset 5 (.reg .b) s

/-- `RES 5,C` (R360). -/
def execRes5C (s : State) : Result := bitReset 5 (.reg .c) s

/-- `RES 5,D` (R360). -/
def execRes5D (s : State) : Result := bitReset 5 (.reg .d) s

/-- `RES 5,E` (R360). -/
def execRes5E (s : State) : Result := bitReset 5 (.reg .e) s

/-- `RES 5,H` (R360). -/
def execRes5H (s : State) : Result := bitReset 5 (.reg .h) s

/-- `RES 5,L` (R360). -/
def execRes5L (s : State) : Result := bitReset 5 (.reg .l) s

/-- `RES 5,(HL)` (R361). -/
def execRes5MHl (s : State) : Result := bitReset 5 .indHl s

/-- `RES 5,A` (R360). -/
def execRes5A (s : State) : Result := bitReset 5 (.reg .a) s

/-- `RES 6,B` (R360). -/
def execRes6B (s : State) : Result := bitReset 6 (.reg .b) s

/-- `RES 6,C` (R360). -/
def execRes6C (s : State) : Result := bitReset 6 (.reg .c) s

/-- `RES 6,D` (R360). -/
def execRes6D (s : State) : Result := bitReset 6 (.reg .d) s

/-- `RES 6,E` (R360). -/
def execRes6E (s : State) : Result := bitReset 6 (.reg .e) s

/-- `RES 6,H` (R360). -/
def execRes6H (s : State) : Result := bitReset 6 (.reg .h) s

/-- `RES 6,L` (R360). -/
def execRes6L (s : State) : Result := bitReset 6 (.reg .l) s

/-- `RES 6,(HL)` (R361). -/
def execRes6MHl (s : State) : Result := bitReset 6 .indHl s

/-- `RES 6,A` (R360). -/
def execRes6A (s : State) : Result := bitReset 6 (.reg .a) s

/-- `RES 7,B` (R360). -/
def execRes7B (s : State) : Result := bitReset 7 (.reg .b) s

/-- `RES 7,C` (R360). -/
def execRes7C (s : State) : Result := bitReset 7 (.reg .c) s

/-- `RES 7,D` (R360). -/
def execRes7D (s : State) : Result := bitReset 7 (.reg .d) s

/-- `RES 7,E` (R360). -/
def execRes7E (s : State) : Result := bitReset 7 (.reg .e) s

/-- `RES 7,H` (R360). -/
def execRes7H (s : State) : Result := bitReset 7 (.reg .h) s

/-- `RES 7,L` (R360). -/
def execRes7L (s : State) : Result := bitReset 7 (.reg .l) s

/-- `RES 7,(HL)` (R361). -/
def execRes7MHl (s : State) : Result := bitReset 7 .indHl s

/-- `RES 7,A` (R360). -/
def execRes7A (s : State) : Result := bitReset 7 (.reg .a) s

/-- `SET 0,B` (R362). -/
def execSet0B (s : State) : Result := bitSet 0 (.reg .b) s

/-- `SET 0,C` (R362). -/
def execSet0C (s : State) : Result := bitSet 0 (.reg .c) s

/-- `SET 0,D` (R362). -/
def execSet0D (s : State) : Result := bitSet 0 (.reg .d) s

/-- `SET 0,E` (R362). -/
def execSet0E (s : State) : Result := bitSet 0 (.reg .e) s

/-- `SET 0,H` (R362). -/
def execSet0H (s : State) : Result := bitSet 0 (.reg .h) s

/-- `SET 0,L` (R362). -/
def execSet0L (s : State) : Result := bitSet 0 (.reg .l) s

/-- `SET 0,(HL)` (R363). -/
def execSet0MHl (s : State) : Result := bitSet 0 .indHl s

/-- `SET 0,A` (R362). -/
def execSet0A (s : State) : Result := bitSet 0 (.reg .a) s

/-- `SET 1,B` (R362). -/
def execSet1B (s : State) : Result := bitSet 1 (.reg .b) s

/-- `SET 1,C` (R362). -/
def execSet1C (s : State) : Result := bitSet 1 (.reg .c) s

/-- `SET 1,D` (R362). -/
def execSet1D (s : State) : Result := bitSet 1 (.reg .d) s

/-- `SET 1,E` (R362). -/
def execSet1E (s : State) : Result := bitSet 1 (.reg .e) s

/-- `SET 1,H` (R362). -/
def execSet1H (s : State) : Result := bitSet 1 (.reg .h) s

/-- `SET 1,L` (R362). -/
def execSet1L (s : State) : Result := bitSet 1 (.reg .l) s

/-- `SET 1,(HL)` (R363). -/
def execSet1MHl (s : State) : Result := bitSet 1 .indHl s

/-- `SET 1,A` (R362). -/
def execSet1A (s : State) : Result := bitSet 1 (.reg .a) s

/-- `SET 2,B` (R362). -/
def execSet2B (s : State) : Result := bitSet 2 (.reg .b) s

/-- `SET 2,C` (R362). -/
def execSet2C (s : State) : Result := bitSet 2 (.reg .c) s

/-- `SET 2,D` (R362). -/
def execSet2D (s : State) : Result := bitSet 2 (.reg .d) s

/-- `SET 2,E` (R362). -/
def execSet2E (s : State) : Result := bitSet 2 (.reg .e) s

/-- `SET 2,H` (R362). -/
def execSet2H (s : State) : Result := bitSet 2 (.reg .h) s

/-- `SET 2,L` (R362). -/
def execSet2L (s : State) : Result := bitSet 2 (.reg .l) s

/-- `SET 2,(HL)` (R363). -/
def execSet2MHl (s : State) : Result := bitSet 2 .indHl s

/-- `SET 2,A` (R362). -/
def execSet2A (s : State) : Result := bitSet 2 (.reg .a) s

/-- `SET 3,B` (R362). -/
def execSet3B (s : State) : Result := bitSet 3 (.reg .b) s

/-- `SET 3,C` (R362). -/
def execSet3C (s : State) : Result := bitSet 3 (.reg .c) s

/-- `SET 3,D` (R362). -/
def execSet3D (s : State) : Result := bitSet 3 (.reg .d) s

/-- `SET 3,E` (R362). -/
def execSet3E (s : State) : Result := bitSet 3 (.reg .e) s

/-- `SET 3,H` (R362). -/
def execSet3H (s : State) : Result := bitSet 3 (.reg .h) s

/-- `SET 3,L` (R362). -/
def execSet3L (s : State) : Result := bitSet 3 (.reg .l) s

/-- `SET 3,(HL)` (R363). -/
def execSet3MHl (s : State) : Result := bitSet 3 .indHl s

/-- `SET 3,A` (R362). -/
def execSet3A (s : State) : Result := bitSet 3 (.reg .a) s

/-- `SET 4,B` (R362). -/
def execSet4B (s : State) : Result := bitSet 4 (.reg .b) s

/-- `SET 4,C` (R362). -/
def execSet4C (s : State) : Result := bitSet 4 (.reg .c) s

/-- `SET 4,D` (R362). -/
def execSet4D (s : State) : Result := bitSet 4 (.reg .d) s

/-- `SET 4,E` (R362). -/
def execSet4E (s : State) : Result := bitSet 4 (.reg .e) s

/-- `SET 4,H` (R362). -/
def execSet4H (s : State) : Result := bitSet 4 (.reg .h) s

/-- `SET 4,L` (R362). -/
def execSet4L (s : State) : Result := bitSet 4 (.reg .l) s

/-- `SET 4,(HL)` (R363). -/
def execSet4MHl (s : State) : Result := bitSet 4 .indHl s

/-- `SET 4,A` (R362). -/
def execSet4A (s : State) : Result := bitSet 4 (.reg .a) s

/-- `SET 5,B` (R362). -/
def execSet5B (s : State) : Result := bitSet 5 (.reg .b) s

/-- `SET 5,C` (R362). -/
def execSet5C (s : State) : Result := bitSet 5 (.reg .c) s

/-- `SET 5,D` (R362). -/
def execSet5D (s : State) : Result := bitSet 5 (.reg .d) s

/-- `SET 5,E` (R362). -/
def execSet5E (s : State) : Result := bitSet 5 (.reg .e) s

/-- `SET 5,H` (R362). -/
def execSet5H (s : State) : Result := bitSet 5 (.reg .h) s

/-- `SET 5,L` (R362). -/
def execSet5L (s : State) : Result := bitSet 5 (.reg .l) s

/-- `SET 5,(HL)` (R363). -/
def execSet5MHl (s : State) : Result := bitSet 5 .indHl s

/-- `SET 5,A` (R362). -/
def execSet5A (s : State) : Result := bitSet 5 (.reg .a) s

/-- `SET 6,B` (R362). -/
def execSet6B (s : State) : Result := bitSet 6 (.reg .b) s

/-- `SET 6,C` (R362). -/
def execSet6C (s : State) : Result := bitSet 6 (.reg .c) s

/-- `SET 6,D` (R362). -/
def execSet6D (s : State) : Result := bitSet 6 (.reg .d) s

/-- `SET 6,E` (R362). -/
def execSet6E (s : State) : Result := bitSet 6 (.reg .e) s

/-- `SET 6,H` (R362). -/
def execSet6H (s : State) : Result := bitSet 6 (.reg .h) s

/-- `SET 6,L` (R362). -/
def execSet6L (s : State) : Result := bitSet 6 (.reg .l) s

/-- `SET 6,(HL)` (R363). -/
def execSet6MHl (s : State) : Result := bitSet 6 .indHl s

/-- `SET 6,A` (R362). -/
def execSet6A (s : State) : Result := bitSet 6 (.reg .a) s

/-- `SET 7,B` (R362). -/
def execSet7B (s : State) : Result := bitSet 7 (.reg .b) s

/-- `SET 7,C` (R362). -/
def execSet7C (s : State) : Result := bitSet 7 (.reg .c) s

/-- `SET 7,D` (R362). -/
def execSet7D (s : State) : Result := bitSet 7 (.reg .d) s

/-- `SET 7,E` (R362). -/
def execSet7E (s : State) : Result := bitSet 7 (.reg .e) s

/-- `SET 7,H` (R362). -/
def execSet7H (s : State) : Result := bitSet 7 (.reg .h) s

/-- `SET 7,L` (R362). -/
def execSet7L (s : State) : Result := bitSet 7 (.reg .l) s

/-- `SET 7,(HL)` (R363). -/
def execSet7MHl (s : State) : Result := bitSet 7 .indHl s

/-- `SET 7,A` (R362). -/
def execSet7A (s : State) : Result := bitSet 7 (.reg .a) s

end Sys2Proof.Machine
end

