-- ==== Sys2Proof/Machine/Control.lean ====
section
/-! DEFINITION. The control transfer instructions (45_control.md R320 to R332). -/

namespace Sys2Proof.Machine

/-- `pc <- a` after an internal cycle (R321, R322). -/
def jumpTo (a : Word) (s : State) : State := (internal s).setPc a

/-- `pc <- PC + sext_16(e)` after an internal cycle (R324, R325). -/
def jumpBy (e : Byte) (s : State) : State :=
  let s1 := internal s
  s1.setPc (s1.cpu.pc + sext16 e)

/-- `Internal(); Push16(PC); pc <- a` (R326, R331). -/
def callTo (a : Word) (s : State) : State :=
  let s1 := internal s
  (push16 s1.cpu.pc s1).setPc a

/-- `JP a16` (R321). -/
def jp (a : Word) (s : State) : Result := .next (jumpTo a s)

/-- `JP cc,a16` (R322). -/
def jpCc (cc : Cond) (a : Word) (s : State) : Result := .next (if s.cpu.f.holds cc then jumpTo a s else s)

/-- `JP HL` (R323). -/
def jpHl (s : State) : Result := .next (s.setPc s.hl)

/-- `JR r8` (R324). -/
def jr (e : Byte) (s : State) : Result := .next (jumpBy e s)

/-- `JR cc,r8` (R325). -/
def jrCc (cc : Cond) (e : Byte) (s : State) : Result := .next (if s.cpu.f.holds cc then jumpBy e s else s)

/-- `CALL a16` (R326). -/
def call (a : Word) (s : State) : Result := .next (callTo a s)

/-- `CALL cc,a16` (R327). -/
def callCc (cc : Cond) (a : Word) (s : State) : Result := .next (if s.cpu.f.holds cc then callTo a s else s)

/-- `RET` (R328). -/
def ret (s : State) : Result := .next (returnFromCall s)

/-- `RET cc`: the condition evaluation cycle is always charged (R329). -/
def retCc (cc : Cond) (s : State) : Result :=
  let s1 := internal s
  .next (if s1.cpu.f.holds cc then returnFromCall s1 else s1)

/-- `RETI` (R330). -/
def reti (s : State) : Result := .next (returnFromInterrupt s)

/-- The target of `RST`: `zext_16(y * 8)` (R331). -/
def rstTarget (y : Fin 8) : Word := zext16 (BitVec.ofNat 8 (y.val * 8))

/-- `RST t` (R331). -/
def rst (y : Fin 8) (s : State) : Result := .next (callTo (rstTarget y) s)

/-- `JR r8` (R324). -/
def execJrR8 (e : Byte) (s : State) : Result := jr e s

/-- `JR NZ,r8` (R325). -/
def execJrNzR8 (e : Byte) (s : State) : Result := jrCc .nz e s

/-- `JR Z,r8` (R325). -/
def execJrZR8 (e : Byte) (s : State) : Result := jrCc .z e s

/-- `JR NC,r8` (R325). -/
def execJrNcR8 (e : Byte) (s : State) : Result := jrCc .nc e s

/-- `JR C,r8` (R325). -/
def execJrCR8 (e : Byte) (s : State) : Result := jrCc .c e s

/-- `RET NZ` (R329). -/
def execRetNz (s : State) : Result := retCc .nz s

/-- `JP NZ,a16` (R322). -/
def execJpNzA16 (a : Word) (s : State) : Result := jpCc .nz a s

/-- `JP a16` (R321). -/
def execJpA16 (a : Word) (s : State) : Result := jp a s

/-- `CALL NZ,a16` (R327). -/
def execCallNzA16 (a : Word) (s : State) : Result := callCc .nz a s

/-- `RST 00H` (R331). -/
def execRst00 (s : State) : Result := rst 0 s

/-- `RET Z` (R329). -/
def execRetZ (s : State) : Result := retCc .z s

/-- `RET` (R328). -/
def execRet (s : State) : Result := ret s

/-- `JP Z,a16` (R322). -/
def execJpZA16 (a : Word) (s : State) : Result := jpCc .z a s

/-- `CALL Z,a16` (R327). -/
def execCallZA16 (a : Word) (s : State) : Result := callCc .z a s

/-- `CALL a16` (R326). -/
def execCallA16 (a : Word) (s : State) : Result := call a s

/-- `RST 08H` (R331). -/
def execRst08 (s : State) : Result := rst 1 s

/-- `RET NC` (R329). -/
def execRetNc (s : State) : Result := retCc .nc s

/-- `JP NC,a16` (R322). -/
def execJpNcA16 (a : Word) (s : State) : Result := jpCc .nc a s

/-- `CALL NC,a16` (R327). -/
def execCallNcA16 (a : Word) (s : State) : Result := callCc .nc a s

/-- `RST 10H` (R331). -/
def execRst10 (s : State) : Result := rst 2 s

/-- `RET C` (R329). -/
def execRetC (s : State) : Result := retCc .c s

/-- `RETI` (R330). -/
def execReti (s : State) : Result := reti s

/-- `JP C,a16` (R322). -/
def execJpCA16 (a : Word) (s : State) : Result := jpCc .c a s

/-- `CALL C,a16` (R327). -/
def execCallCA16 (a : Word) (s : State) : Result := callCc .c a s

/-- `RST 18H` (R331). -/
def execRst18 (s : State) : Result := rst 3 s

/-- `RST 20H` (R331). -/
def execRst20 (s : State) : Result := rst 4 s

/-- `JP HL` (R323). -/
def execJpHl (s : State) : Result := jpHl s

/-- `RST 28H` (R331). -/
def execRst28 (s : State) : Result := rst 5 s

/-- `RST 30H` (R331). -/
def execRst30 (s : State) : Result := rst 6 s

/-- `RST 38H` (R331). -/
def execRst38 (s : State) : Result := rst 7 s

end Sys2Proof.Machine
end

