-- ==== Sys2Proof/Machine/Load8.lean ====
section
/-! DEFINITION. The 8-bit loads (40_load8.md R200 to R219): each moves one byte between two variants of the virtual
operand and writes no flag. -/

namespace Sys2Proof.Machine

/-- A load: the source read, then the destination written (R200 to R219). -/
def ld (dst src : Operand) (s : State) : Result :=
  let r := rd src s
  .next (wr dst r.1 r.2)

/-- `LD (BC),A` (R208). -/
def execLdMBcA (s : State) : Result := ld .indBc (.reg .a) s

/-- `LD B,d8` (R202). -/
def execLdBD8 (n : Byte) (s : State) : Result := ld (.reg .b) (.imm n) s

/-- `LD A,(BC)` (R206). -/
def execLdAMBc (s : State) : Result := ld (.reg .a) .indBc s

/-- `LD C,d8` (R202). -/
def execLdCD8 (n : Byte) (s : State) : Result := ld (.reg .c) (.imm n) s

/-- `LD (DE),A` (R209). -/
def execLdMDeA (s : State) : Result := ld .indDe (.reg .a) s

/-- `LD D,d8` (R202). -/
def execLdDD8 (n : Byte) (s : State) : Result := ld (.reg .d) (.imm n) s

/-- `LD A,(DE)` (R207). -/
def execLdAMDe (s : State) : Result := ld (.reg .a) .indDe s

/-- `LD E,d8` (R202). -/
def execLdED8 (n : Byte) (s : State) : Result := ld (.reg .e) (.imm n) s

/-- `LD (HL+),A` (R218). -/
def execLdMHlIncA (s : State) : Result := ld .indHlInc (.reg .a) s

/-- `LD H,d8` (R202). -/
def execLdHD8 (n : Byte) (s : State) : Result := ld (.reg .h) (.imm n) s

/-- `LD A,(HL+)` (R216). -/
def execLdAMHlInc (s : State) : Result := ld (.reg .a) .indHlInc s

/-- `LD L,d8` (R202). -/
def execLdLD8 (n : Byte) (s : State) : Result := ld (.reg .l) (.imm n) s

/-- `LD (HL-),A` (R219). -/
def execLdMHlDecA (s : State) : Result := ld .indHlDec (.reg .a) s

/-- `LD (HL),d8` (R205). -/
def execLdMHlD8 (n : Byte) (s : State) : Result := ld .indHl (.imm n) s

/-- `LD A,(HL-)` (R217). -/
def execLdAMHlDec (s : State) : Result := ld (.reg .a) .indHlDec s

/-- `LD A,d8` (R202). -/
def execLdAD8 (n : Byte) (s : State) : Result := ld (.reg .a) (.imm n) s

/-- `LD B,B` (R201). -/
def execLdBB (s : State) : Result := ld (.reg .b) (.reg .b) s

/-- `LD B,C` (R201). -/
def execLdBC (s : State) : Result := ld (.reg .b) (.reg .c) s

/-- `LD B,D` (R201). -/
def execLdBD (s : State) : Result := ld (.reg .b) (.reg .d) s

/-- `LD B,E` (R201). -/
def execLdBE (s : State) : Result := ld (.reg .b) (.reg .e) s

/-- `LD B,H` (R201). -/
def execLdBH (s : State) : Result := ld (.reg .b) (.reg .h) s

/-- `LD B,L` (R201). -/
def execLdBL (s : State) : Result := ld (.reg .b) (.reg .l) s

/-- `LD B,(HL)` (R203). -/
def execLdBMHl (s : State) : Result := ld (.reg .b) .indHl s

/-- `LD B,A` (R201). -/
def execLdBA (s : State) : Result := ld (.reg .b) (.reg .a) s

/-- `LD C,B` (R201). -/
def execLdCB (s : State) : Result := ld (.reg .c) (.reg .b) s

/-- `LD C,C` (R201). -/
def execLdCC (s : State) : Result := ld (.reg .c) (.reg .c) s

/-- `LD C,D` (R201). -/
def execLdCD (s : State) : Result := ld (.reg .c) (.reg .d) s

/-- `LD C,E` (R201). -/
def execLdCE (s : State) : Result := ld (.reg .c) (.reg .e) s

/-- `LD C,H` (R201). -/
def execLdCH (s : State) : Result := ld (.reg .c) (.reg .h) s

/-- `LD C,L` (R201). -/
def execLdCL (s : State) : Result := ld (.reg .c) (.reg .l) s

/-- `LD C,(HL)` (R203). -/
def execLdCMHl (s : State) : Result := ld (.reg .c) .indHl s

/-- `LD C,A` (R201). -/
def execLdCA (s : State) : Result := ld (.reg .c) (.reg .a) s

/-- `LD D,B` (R201). -/
def execLdDB (s : State) : Result := ld (.reg .d) (.reg .b) s

/-- `LD D,C` (R201). -/
def execLdDC (s : State) : Result := ld (.reg .d) (.reg .c) s

/-- `LD D,D` (R201). -/
def execLdDD (s : State) : Result := ld (.reg .d) (.reg .d) s

/-- `LD D,E` (R201). -/
def execLdDE (s : State) : Result := ld (.reg .d) (.reg .e) s

/-- `LD D,H` (R201). -/
def execLdDH (s : State) : Result := ld (.reg .d) (.reg .h) s

/-- `LD D,L` (R201). -/
def execLdDL (s : State) : Result := ld (.reg .d) (.reg .l) s

/-- `LD D,(HL)` (R203). -/
def execLdDMHl (s : State) : Result := ld (.reg .d) .indHl s

/-- `LD D,A` (R201). -/
def execLdDA (s : State) : Result := ld (.reg .d) (.reg .a) s

/-- `LD E,B` (R201). -/
def execLdEB (s : State) : Result := ld (.reg .e) (.reg .b) s

/-- `LD E,C` (R201). -/
def execLdEC (s : State) : Result := ld (.reg .e) (.reg .c) s

/-- `LD E,D` (R201). -/
def execLdED (s : State) : Result := ld (.reg .e) (.reg .d) s

/-- `LD E,E` (R201). -/
def execLdEE (s : State) : Result := ld (.reg .e) (.reg .e) s

/-- `LD E,H` (R201). -/
def execLdEH (s : State) : Result := ld (.reg .e) (.reg .h) s

/-- `LD E,L` (R201). -/
def execLdEL (s : State) : Result := ld (.reg .e) (.reg .l) s

/-- `LD E,(HL)` (R203). -/
def execLdEMHl (s : State) : Result := ld (.reg .e) .indHl s

/-- `LD E,A` (R201). -/
def execLdEA (s : State) : Result := ld (.reg .e) (.reg .a) s

/-- `LD H,B` (R201). -/
def execLdHB (s : State) : Result := ld (.reg .h) (.reg .b) s

/-- `LD H,C` (R201). -/
def execLdHC (s : State) : Result := ld (.reg .h) (.reg .c) s

/-- `LD H,D` (R201). -/
def execLdHD (s : State) : Result := ld (.reg .h) (.reg .d) s

/-- `LD H,E` (R201). -/
def execLdHE (s : State) : Result := ld (.reg .h) (.reg .e) s

/-- `LD H,H` (R201). -/
def execLdHH (s : State) : Result := ld (.reg .h) (.reg .h) s

/-- `LD H,L` (R201). -/
def execLdHL (s : State) : Result := ld (.reg .h) (.reg .l) s

/-- `LD H,(HL)` (R203). -/
def execLdHMHl (s : State) : Result := ld (.reg .h) .indHl s

/-- `LD H,A` (R201). -/
def execLdHA (s : State) : Result := ld (.reg .h) (.reg .a) s

/-- `LD L,B` (R201). -/
def execLdLB (s : State) : Result := ld (.reg .l) (.reg .b) s

/-- `LD L,C` (R201). -/
def execLdLC (s : State) : Result := ld (.reg .l) (.reg .c) s

/-- `LD L,D` (R201). -/
def execLdLD (s : State) : Result := ld (.reg .l) (.reg .d) s

/-- `LD L,E` (R201). -/
def execLdLE (s : State) : Result := ld (.reg .l) (.reg .e) s

/-- `LD L,H` (R201). -/
def execLdLH (s : State) : Result := ld (.reg .l) (.reg .h) s

/-- `LD L,L` (R201). -/
def execLdLL (s : State) : Result := ld (.reg .l) (.reg .l) s

/-- `LD L,(HL)` (R203). -/
def execLdLMHl (s : State) : Result := ld (.reg .l) .indHl s

/-- `LD L,A` (R201). -/
def execLdLA (s : State) : Result := ld (.reg .l) (.reg .a) s

/-- `LD (HL),B` (R204). -/
def execLdMHlB (s : State) : Result := ld .indHl (.reg .b) s

/-- `LD (HL),C` (R204). -/
def execLdMHlC (s : State) : Result := ld .indHl (.reg .c) s

/-- `LD (HL),D` (R204). -/
def execLdMHlD (s : State) : Result := ld .indHl (.reg .d) s

/-- `LD (HL),E` (R204). -/
def execLdMHlE (s : State) : Result := ld .indHl (.reg .e) s

/-- `LD (HL),H` (R204). -/
def execLdMHlH (s : State) : Result := ld .indHl (.reg .h) s

/-- `LD (HL),L` (R204). -/
def execLdMHlL (s : State) : Result := ld .indHl (.reg .l) s

/-- `LD (HL),A` (R204). -/
def execLdMHlA (s : State) : Result := ld .indHl (.reg .a) s

/-- `LD A,B` (R201). -/
def execLdAB (s : State) : Result := ld (.reg .a) (.reg .b) s

/-- `LD A,C` (R201). -/
def execLdAC (s : State) : Result := ld (.reg .a) (.reg .c) s

/-- `LD A,D` (R201). -/
def execLdAD (s : State) : Result := ld (.reg .a) (.reg .d) s

/-- `LD A,E` (R201). -/
def execLdAE (s : State) : Result := ld (.reg .a) (.reg .e) s

/-- `LD A,H` (R201). -/
def execLdAH (s : State) : Result := ld (.reg .a) (.reg .h) s

/-- `LD A,L` (R201). -/
def execLdAL (s : State) : Result := ld (.reg .a) (.reg .l) s

/-- `LD A,(HL)` (R203). -/
def execLdAMHl (s : State) : Result := ld (.reg .a) .indHl s

/-- `LD A,A` (R201). -/
def execLdAA (s : State) : Result := ld (.reg .a) (.reg .a) s

/-- `LDH (a8),A` (R215). -/
def execLdhMA8A (n : Byte) (s : State) : Result := ld (.high n) (.reg .a) s

/-- `LDH (C),A` (R213). -/
def execLdhMCA (s : State) : Result := ld .highC (.reg .a) s

/-- `LD (a16),A` (R211). -/
def execLdMA16A (a : Word) (s : State) : Result := ld (.abs a) (.reg .a) s

/-- `LDH A,(a8)` (R214). -/
def execLdhAMA8 (n : Byte) (s : State) : Result := ld (.reg .a) (.high n) s

/-- `LDH A,(C)` (R212). -/
def execLdhAMC (s : State) : Result := ld (.reg .a) .highC s

/-- `LD A,(a16)` (R210). -/
def execLdAMA16 (a : Word) (s : State) : Result := ld (.reg .a) (.abs a) s

end Sys2Proof.Machine
end

