-- ==== Sys2Proof/Machine/RotateAcc.lean ====
section
/-! DEFINITION. The accumulator rotates (44_rotate_acc.md R310 to R314). -/

namespace Sys2Proof.Machine

/-- A rotate of A: Z, N and H are 0 whatever the result, C is the bit rotated out (R310). -/
def rotateA (op : RotOp) (s : State) : Result :=
  let r := rotated op s.cpu.a s.cpu.f.c
  .next ((s.setReg .a r.res).setFlags { z := false, n := false, h := false, c := r.c })

/-- `RLCA` (R311). -/
def execRlca (s : State) : Result := rotateA .rlc s

/-- `RRCA` (R312). -/
def execRrca (s : State) : Result := rotateA .rrc s

/-- `RLA` (R313). -/
def execRla (s : State) : Result := rotateA .rl s

/-- `RRA` (R314). -/
def execRra (s : State) : Result := rotateA .rr s

end Sys2Proof.Machine
end

