-- ==== Sys2Proof/Machine/System.lean ====
section
/-! DEFINITION. The system instructions, the prefix byte and the unassigned bytes (47_system.md R380 to R387). -/

namespace Sys2Proof.Machine

/-- `NOP` (R381). -/
def nop (s : State) : Result := .next s

/-- `HALT`: `halted <- 1` (R382). -/
def halt (s : State) : Result := .next { s with cpu := { s.cpu with halted := true } }

/-- `STOP`: `Fatal(StopNotModelled)` (R383). -/
def stop (s : State) : Result := .next (raiseFatal .stopNotModelled s)

/-- `DI`: at once (R384). -/
def di (s : State) : Result := .next { s with irq := { s.irq with ime := false } }

/-- `EI`: at once (R385). -/
def ei (s : State) : Result := .next { s with irq := { s.irq with ime := true } }

/-- An unassigned byte: `Fatal(UnknownOpcode(op, PC - 1))` (R387). -/
def unassigned (op : Byte) (s : State) : Result := .next (raiseFatal (.unknownOpcode op (s.cpu.pc - 1#16)) s)

/-- The operand of a 3-bit register field (R163). -/
def operandOfField (i : Nat) : Operand :=
  match Reg8.ofField i with
  | some r => .reg r
  | none => .indHl

/-- "Execute the extended instruction op2" (R386), by the fields of the second byte (R340). -/
def extended (op2 : Byte) (s : State) : Result :=
  match fieldX op2 with
  | 0 => rotate (.ofField (fieldY op2)) (operandOfField (fieldZ op2)) s
  | 1 => bitTest (octal (fieldY op2)) (operandOfField (fieldZ op2)) s
  | 2 => bitReset (octal (fieldY op2)) (operandOfField (fieldZ op2)) s
  | _ => bitSet (octal (fieldY op2)) (operandOfField (fieldZ op2)) s

/-- `NOP` (R381). -/
def execNop (s : State) : Result := nop s

/-- `STOP` (R383). -/
def execStop (s : State) : Result := stop s

/-- `HALT` (R382). -/
def execHalt (s : State) : Result := halt s

/-- `PREFIX CB` (R386). -/
def execPrefixCb (op2 : Byte) (s : State) : Result := extended op2 s

/-- `ILLEGAL_D3` (R387). -/
def execIllegalD3 (s : State) : Result := unassigned 0xD3#8 s

/-- `ILLEGAL_DB` (R387). -/
def execIllegalDB (s : State) : Result := unassigned 0xDB#8 s

/-- `ILLEGAL_DD` (R387). -/
def execIllegalDD (s : State) : Result := unassigned 0xDD#8 s

/-- `ILLEGAL_E3` (R387). -/
def execIllegalE3 (s : State) : Result := unassigned 0xE3#8 s

/-- `ILLEGAL_E4` (R387). -/
def execIllegalE4 (s : State) : Result := unassigned 0xE4#8 s

/-- `ILLEGAL_EB` (R387). -/
def execIllegalEB (s : State) : Result := unassigned 0xEB#8 s

/-- `ILLEGAL_EC` (R387). -/
def execIllegalEC (s : State) : Result := unassigned 0xEC#8 s

/-- `ILLEGAL_ED` (R387). -/
def execIllegalED (s : State) : Result := unassigned 0xED#8 s

/-- `DI` (R384). -/
def execDi (s : State) : Result := di s

/-- `ILLEGAL_F4` (R387). -/
def execIllegalF4 (s : State) : Result := unassigned 0xF4#8 s

/-- `EI` (R385). -/
def execEi (s : State) : Result := ei s

/-- `ILLEGAL_FC` (R387). -/
def execIllegalFC (s : State) : Result := unassigned 0xFC#8 s

/-- `ILLEGAL_FD` (R387). -/
def execIllegalFD (s : State) : Result := unassigned 0xFD#8 s

end Sys2Proof.Machine
end

