-- ==== Sys2Proof/Machine/Outside.lean ====
section
/-! DEFINITION. What the outside does between top-level steps (60_exceptions.md R442; 61_devices.md R545; 70 R560), how a
machine is configured (20_memory.md R133), and how bytes are placed where the next instruction is fetched. -/

namespace Sys2Proof.Machine

/-- Reset applied by the host: every piece of state at its reset value; the parameters, the collaborators' own state and
the inputs still to come survive (R560). -/
def hostReset (s : State) : State := State.resetWith s.bootImage s.ext s.inputs

/-- One act of the outside (R442, R545, R560; 10_state.md R72). -/
def hostEvent (e : HostEvent) (s : State) : State :=
  match e with
  | .requestSerial => request .serial s
  | .requestJoypad => request .joypad s
  | .consumeFrame => { s with ppu := { s.ppu with frameReady := false } }
  | .extBecomes x => { s with ext := x }
  | .reset => hostReset s

/-- Several acts, in order. -/
def hostEvents (l : List HostEvent) (s : State) : State :=
  match l with
  | [] => s
  | e :: t => hostEvents t (hostEvent e s)

/-- The gap before a top-level step: the acts the input list has for it (log entry 6). -/
def betweenSteps (s : State) : State :=
  match s.inputs with
  | [] => s
  | acts :: later => hostEvents acts { s with inputs := later }

/-- The recoverable configuration error of a machine's start (20_memory.md R133; 60_exceptions.md R402). -/
inductive BootError where
  | oversizedBootImage
deriving DecidableEq, Repr

/-- A machine configured with a boot image and collaborators, right after reset; or the error, and no machine (R133). -/
def State.configured (image : List Byte) (ext : ExtDevice) : Except BootError State :=
  if image.length > cfg.bootMax then .error .oversizedBootImage else .ok (State.resetWith image ext [])

/-- The frame the host reads: the shade of column `x` of line `line` of `fb_ready` (10_state.md R72). -/
def State.readyPixel (s : State) (line x : Nat) : BitVec 2 := s.ppu.fbReady.get (line * cfg.screenW + x)

/-- Bytes written at consecutive addresses of a memory. -/
def placeBytes (bs : List Byte) (a : Nat) (m : Memory) : Memory :=
  match bs with
  | [] => m
  | b :: t => placeBytes t (a + 1) (m.write a b)

/-- The image of a ROM-only cartridge; of any other collaborator, none is known. -/
def ExtDevice.rom (e : ExtDevice) : Memory :=
  match e with
  | .romOnly rom => rom
  | .oracle _ => []

/-- The three addresses from `a` lie in a buffer of the core. -/
def inBuffer (a : Word) (s : State) : Bool :=
  decide (a.toNat + 2 < 65536) && decide (s.writeOwner a = some .buffer)
    && decide (s.writeOwner (a + 1#16) = some .buffer) && decide (s.writeOwner (a + 2#16) = some .buffer)

/-- Three bytes placed where the next instruction is fetched (log entry 7): at PC in the cartridge image if PC is below
0x8000 (the collaborator is then a ROM-only cartridge, and no overlay hides the image), at PC in the core's memory if
PC points there, else at 0xC000 with PC moved there. -/
def placeAtFetch (bs : List Byte) (s : State) : State :=
  if s.cpu.pc.toNat + 2 < 0x8000 then
    { s with
      ext := .romOnly (placeBytes bs s.cpu.pc.toNat s.ext.rom)
      bootActive := s.bootActive && decide (s.bootImage.length ≤ s.cpu.pc.toNat) }
  else if inBuffer s.cpu.pc s then { s with mem := placeBytes bs s.cpu.pc.toNat s.mem }
  else { (s.setPc 0xC000#16) with mem := placeBytes bs 0xC000 s.mem }

/-- The machine about to fetch: not stopped, not halted, no act of the outside and no redirection before the fetch. -/
def readyToFetch (s : State) : State :=
  { s with
    stopped := none
    inputs := []
    cpu := { s.cpu with halted := false }
    irq := { s.irq with ime := s.irq.ime && s.firstPending.isNone } }

end Sys2Proof.Machine
end

