-- ==== Sys2Proof/Machine/Picture.lean ====
section
/-! DEFINITION. The picture generator: sprite search (61_devices.md R490), compositing of a line (R492 to R497). -/

namespace Sys2Proof.Machine

/-- The sprite height: 16 or 8 lines by LCDC bit 2 (R490). -/
def spriteHeight (p : Ppu) : Nat := if p.lcdc.getLsbD 2 then 16 else 8

/-- The vertical span of sprite `i` covers line LY: `top <= LY < top + h` with `top = y - 16`, signed (R490). -/
def spriteCovers (s : State) (i : Nat) : Bool :=
  let top : Int := (s.oam (4 * i)).toNat - 16
  decide (top ≤ s.ppu.ly.toNat) && decide ((s.ppu.ly.toNat : Int) < top + spriteHeight s.ppu)

/-- The order of the visible list: ascending x byte, "ties broken by table index" (R490). -/
def spriteBefore (s : State) (i j : Nat) : Bool :=
  let xi := (s.oam (4 * i + 1)).toNat
  let xj := (s.oam (4 * j + 1)).toNat
  decide (xi < xj) || (decide (xi = xj) && decide (i ≤ j))

/-- A sprite put in its place in a sorted list. -/
def insertSprite (s : State) (i : Nat) (l : List Nat) : List Nat :=
  match l with
  | [] => [i]
  | j :: t => if spriteBefore s i j then i :: j :: t else j :: insertSprite s i t

/-- The selected sprites in drawing order. -/
def sortSprites (s : State) (l : List Nat) : List Nat :=
  match l with
  | [] => []
  | i :: t => insertSprite s i (sortSprites s t)

/-- The first ten covering entries in table order (R490; D23). -/
def selectedSprites (s : State) : List Nat :=
  ((List.range cfg.nSprites).filter (spriteCovers s)).take cfg.maxLineSprites

/-- `SpriteSearch()` (R490). -/
def spriteSearch (s : State) : State :=
  { s with ppu := { s.ppu with visible := sortSprites s (selectedSprites s) } }

/-- The offset in `vram` of a tile (R495): unsigned from 0x0000, or signed around 0x1000. -/
def tileBase (unsignedMode : Bool) (tile : Byte) : Nat :=
  if unsignedMode then tile.toNat * 16 else (0x1000 + tile.toInt * 16).toNat

/-- `TilePixel(unsigned_mode, tile, row, col)`: the 2-bit colour index, "the second byte holds the high bit" (R495). -/
def tilePixel (s : State) (unsignedMode : Bool) (tile : Byte) (row col : Nat) : BitVec 2 :=
  let base := tileBase unsignedMode tile
  let low := s.vram (base + 2 * row)
  let high := s.vram (base + 2 * row + 1)
  (BitVec.ofBool (high.getLsbD (7 - col)) ++ BitVec.ofBool (low.getLsbD (7 - col)) : BitVec (1 + 1))

/-- The offset in `vram` of a tile map (R493, R494). -/
def mapBase (second : Bool) : Nat := if second then 0x1C00 else 0x1800

/-- The colour index of a 32 x 32 tile map at a pixel position (R493, R494). -/
def mapPixel (s : State) (second : Bool) (px py : Nat) : BitVec 2 :=
  let tile := s.vram (mapBase second + py / 8 * 32 + px / 8)
  tilePixel s (s.ppu.lcdc.getLsbD 4) tile (py % 8) (px % 8)

/-- The window applies at column `x` of line LY (R494). -/
def windowApplies (s : State) (x : Nat) : Bool :=
  s.ppu.lcdc.getLsbD 0 && s.ppu.lcdc.getLsbD 5 && decide (s.ppu.wy.toNat ≤ s.ppu.ly.toNat)
    && decide (s.ppu.wx.toNat ≤ x + 7)

/-- `BgWindowIndex(x)` (R493, R494): index 0 with the layer off (D26), the window where it applies, else the scrolled
background, "a 256 x 256 torus". -/
def bgWindowIndex (s : State) (x : Nat) : BitVec 2 :=
  if !s.ppu.lcdc.getLsbD 0 then 0#2
  else if windowApplies s x then
    mapPixel s (s.ppu.lcdc.getLsbD 6) (x + 7 - s.ppu.wx.toNat) (s.ppu.ly.toNat - s.ppu.wy.toNat)
  else
    mapPixel s (s.ppu.lcdc.getLsbD 3) ((x + s.ppu.scx.toNat) % 256) ((s.ppu.ly.toNat + s.ppu.scy.toNat) % 256)

/-- Entry `i` of a palette register (R497). -/
def shadeOf (palette : Byte) (ci : BitVec 2) : BitVec 2 := palette.extractLsb' (2 * ci.toNat) 2

/-- The colour index sprite `i` has at column `x` of line LY, or `none` where it does not reach (R496). -/
def spriteIndexAt (s : State) (x i : Nat) : Option (BitVec 2) :=
  let h := spriteHeight s.ppu
  let tile := s.oam (4 * i + 2)
  let flags := s.oam (4 * i + 3)
  let col : Int := (x : Int) - ((s.oam (4 * i + 1)).toNat - 8)
  let row : Int := (s.ppu.ly.toNat : Int) - ((s.oam (4 * i)).toNat - 16)
  if col < 0 ∨ col > 7 then none
  else if row < 0 ∨ row ≥ h then none
  else
    let row' := if flags.getLsbD 6 then h - 1 - row.toNat else row.toNat
    let col' := if flags.getLsbD 5 then 7 - col.toNat else col.toNat
    if h = 16 then
      some (tilePixel s true ((tile &&& 0xFE#8) ||| (if row' ≥ 8 then 1#8 else 0#8)) (row' % 8) col')
    else some (tilePixel s true tile row' col')

/-- The sprite's pixel is suppressed: transparent, or "its priority flag is set and the background pixel is non-zero"
(R496; D24). -/
def spriteSuppressed (flags : Byte) (ci bg : BitVec 2) : Bool :=
  decide (ci = 0#2) || (flags.getLsbD 7 && decide (bg ≠ 0#2))

/-- The sprite's palette register (R496, R497). -/
def spritePalette (p : Ppu) (flags : Byte) : Byte := if flags.getLsbD 4 then p.obp1 else p.obp0

/-- The first sprite of a list with an unsuppressed pixel at column `x`, with its colour index and palette (R496). -/
def firstSpritePixel (s : State) (x : Nat) (bg : BitVec 2) (l : List Nat) : Option (BitVec 2 × Byte) :=
  match l with
  | [] => none
  | i :: t =>
    match spriteIndexAt s x i with
    | none => firstSpritePixel s x bg t
    | some ci =>
      if spriteSuppressed (s.oam (4 * i + 3)) ci bg then firstSpritePixel s x bg t
      else some (ci, spritePalette s.ppu (s.oam (4 * i + 3)))

/-- `SpritePixel(x, bg)` (R496). -/
def spritePixel (s : State) (x : Nat) (bg : BitVec 2) : Option (BitVec 2 × Byte) :=
  if !s.ppu.lcdc.getLsbD 1 then none else firstSpritePixel s x bg s.ppu.visible

/-- The shade of column `x` of line LY (R492). -/
def pixelShade (s : State) (x : Nat) : BitVec 2 :=
  let bg := bgWindowIndex s x
  match spritePixel s x bg with
  | none => shadeOf s.ppu.bgp bg
  | some (ci, palette) => shadeOf palette ci

/-- The columns 0 to `n - 1` of line LY written into a frame. -/
def drawColumns (s : State) (n : Nat) (fb : Frame) : Frame :=
  match n with
  | 0 => fb
  | n + 1 => (drawColumns s n fb).set (s.ppu.ly.toNat * cfg.screenW + n) (pixelShade s n)

/-- `RenderLine()`: the 160 pixels of line LY of `fb_draw` (R492). The buffer has the visible lines only; for another
line, which no run renders, nothing is written (log entry 13). -/
def renderLine (s : State) : State :=
  if s.ppu.ly.toNat < cfg.visibleLines then
    { s with ppu := { s.ppu with fbDraw := drawColumns s cfg.screenW s.ppu.fbDraw } }
  else s

end Sys2Proof.Machine
end

