-- ==== Sys2Proof/Machine/PpuStep.lean ====
section
/-! DEFINITION. The scanline state machine (61_devices.md R480 to R488), the sprite-table DMA (R500 to R502) and
`PpuStep`, the picture generator's single entry point. -/

namespace Sys2Proof.Machine

/-- One byte of a DMA transfer: 4 cycles of budget spent, the source read through the bus, `oam` written (R502). -/
def dmaCopyByte (s : State) : State :=
  let s1 := { s with dma := { s.dma with budget := s.dma.budget - cfg.dmaByteCycles } }
  let r := memRead (s1.dma.src + BitVec.ofNat 16 s1.dma.index) s1
  let s2 := r.2.setOam s1.dma.index r.1
  let s3 := { s2 with dma := { s2.dma with index := s2.dma.index + 1 } }
  if s3.dma.index = cfg.dmaLen then { s3 with dma := { s3.dma with active := false, budget := 0 } } else s3

/-- The loop of `DmaAdvance`, at most `n` bytes (R502). -/
def dmaLoop (n : Nat) (s : State) : State :=
  match n with
  | 0 => s
  | n + 1 => if s.dma.active && decide (s.dma.budget ≥ cfg.dmaByteCycles) then dmaLoop n (dmaCopyByte s) else s

/-- `DmaAdvance(delta)` (R502): the budget bounds the number of bytes. -/
def dmaAdvance (delta : Nat) (s : State) : State :=
  if s.dma.active then
    let s1 := { s with dma := { s.dma with budget := s.dma.budget + delta } }
    dmaLoop (s1.dma.budget / cfg.dmaByteCycles) s1
  else s

/-- An lcd-status request, if an enable bit of the status register is set; `i` is the bit's place above bit 3 (R64, R484). -/
def requestLcdIf (i : Nat) (s : State) : State := if s.ppu.statEn.getLsbD i then request .lcdStatus s else s

/-- `EnterSpriteSearch()`, enable bit 5 (R484). -/
def enterSearch (s : State) : State :=
  requestLcdIf 2 (spriteSearch { s with ppu := { s.ppu with mode := .search } })

/-- The entry into PixelTransfer: no action, no enable bit (R484; 90 C8). -/
def enterTransfer (s : State) : State := { s with ppu := { s.ppu with mode := .transfer } }

/-- `EnterHBlank()`, enable bit 3 (R484). -/
def enterHblank (s : State) : State := requestLcdIf 0 (renderLine { s with ppu := { s.ppu with mode := .hblank } })

/-- `EnterVBlank()`, enable bit 4: the frame becomes available, vblank is requested whatever the enable bits (R485). -/
def enterVblank (s : State) : State :=
  requestLcdIf 1 (request .vblank
    { s with ppu := { s.ppu with mode := .vblank, fbReady := s.ppu.fbDraw, frameReady := true } })

/-- The start of the next line: a line's cycles taken off, LY counted up (R480). -/
def nextLine (s : State) : State :=
  { s with ppu := { s.ppu with lineCycle := s.ppu.lineCycle - cfg.lineLen, ly := s.ppu.ly + 1#8 } }

/-- One transition of the state machine, or `none` when no threshold is reached (R480, R483). -/
def transition (s : State) : Option State :=
  match s.ppu.mode with
  | .search => if s.ppu.lineCycle ≥ cfg.searchLen then some (enterTransfer s) else none
  | .transfer => if s.ppu.lineCycle ≥ cfg.searchLen + cfg.transferLen then some (enterHblank s) else none
  | .hblank =>
    if s.ppu.lineCycle ≥ cfg.lineLen then
      let t := nextLine s
      some (if t.ppu.ly.toNat = cfg.visibleLines then enterVblank t else enterSearch t)
    else none
  | .vblank =>
    if s.ppu.lineCycle ≥ cfg.lineLen then
      let t := nextLine s
      some (if t.ppu.ly.toNat = cfg.frameLines then enterSearch { t with ppu := { t.ppu with ly := 0#8 } } else t)
    else none

/-- The loop of `PpuStep`, at most `n` transitions. -/
def transitions (n : Nat) (s : State) : State :=
  match n with
  | 0 => s
  | n + 1 =>
    match transition s with
    | none => s
    | some t => transitions n t

/-- How many transitions the cycles of a line offset can make: at most three a line (log entry 14). -/
def transitionBound (s : State) : Nat := 3 * (s.ppu.lineCycle / cfg.lineLen + 1)

/-- `LineCompare()`: the match flag, and the request gated by enable bit 6, at each call (R487). -/
def lineCompare (s : State) : State :=
  let t := { s with ppu := { s.ppu with lycMatch := decide (s.ppu.ly = s.ppu.lyc) } }
  if t.ppu.lycMatch then requestLcdIf 3 t else t

/-- `PpuStep(total)`: DMA, then the state machine, then the line compare (R480). -/
def ppuStep (total : Nat) (s : State) : State :=
  let delta := total - s.ppu.seen
  let s1 := dmaAdvance delta { s with ppu := { s.ppu with seen := total } }
  let s2 := { s1 with ppu := { s1.ppu with lineCycle := s1.ppu.lineCycle + delta } }
  lineCompare (transitions (transitionBound s2) s2)

end Sys2Proof.Machine
end

