-- ==== Sys2Proof/Machine/Step.lean ====
section
/-! DEFINITION. The CPU step and the top-level step (60_exceptions.md R440). -/

namespace Sys2Proof.Machine

/-- `CpuStep()`: a tick while halted, else one instruction fetched, decoded and executed (R440). -/
def cpuStep (s : State) : Result :=
  if s.cpu.halted then .next (tick cfg.haltTick s)
  else
    let r := fetchInstr s
    match decode r.1 with
    | .ok (i, _) => exec i r.2
    | .error _ => .refused .undecodable

/-- The end of a top-level step: the picture generator, unless a `Fatal` ended the step (R401, R440). -/
def finishStep (t : State) : State := if t.stopped.isSome then t else ppuStep t.timer.cycles t

/-- `Step()`: nothing when stopped; else the dispatch, the CPU, the picture generator (R440). -/
def topStep (s : State) : Result :=
  if s.stopped.isSome then .next s
  else
    match cpuStep (dispatch s) with
    | .next t => .next (finishStep t)
    | .fault r => .fault r
    | .refused r => .refused r

/-- One step of the machine: what the outside does first, then `Step()` (R440, R442). A machine configured with an
oversized boot image is not started (R133). -/
def step (s : State) : Host.Outcome State Fault Refusal :=
  if s.bootImage.length > cfg.bootMax then .fault .oversizedBootImage else topStep (betweenSteps s)

/-- The state with the instruction of a table word stored where `step` fetches its next instruction (log entry 7). -/
def State.withFetchWord (s : State) (nbits w : Nat) : State := placeAtFetch (tableBytes nbits w) (readyToFetch s)

end Sys2Proof.Machine
end

