-- ==== Sys2Proof/Machine/Cycles.lean ====
section
/-! DEFINITION. The cycle counts of spec/opcode_table.json (70_reset_and_hazards.md R586), the fetch of every byte
included, for statements about time: the machine does not read this table, it charges each access (00_scope.md R12). -/

namespace Sys2Proof

/-- The cycles of an instruction (R586): of a conditional one, those of the taken or the not taken form. -/
def Instr.cycles (i : Instr) (f : Machine.Flags) : Nat :=
  match i with
  | .nop | .incB | .decB | .rlca | .incC | .decC | .rrca | .stop | .incD | .decD | .rla | .incE | .decE | .rra
  | .incH | .decH | .daa | .incL | .decL | .cpl | .scf | .incA | .decA | .ccf | .ldBB | .ldBC | .ldBD | .ldBE
  | .ldBH | .ldBL | .ldBA | .ldCB | .ldCC | .ldCD | .ldCE | .ldCH | .ldCL | .ldCA | .ldDB | .ldDC | .ldDD
  | .ldDE | .ldDH | .ldDL | .ldDA | .ldEB | .ldEC | .ldED | .ldEE | .ldEH | .ldEL | .ldEA | .ldHB | .ldHC
  | .ldHD | .ldHE | .ldHH | .ldHL | .ldHA | .ldLB | .ldLC | .ldLD | .ldLE | .ldLH | .ldLL | .ldLA | .halt
  | .ldAB | .ldAC | .ldAD | .ldAE | .ldAH | .ldAL | .ldAA | .addAB | .addAC | .addAD | .addAE | .addAH | .addAL
  | .addAA | .adcAB | .adcAC | .adcAD | .adcAE | .adcAH | .adcAL | .adcAA | .subB | .subC | .subD | .subE
  | .subH | .subL | .subA | .sbcAB | .sbcAC | .sbcAD | .sbcAE | .sbcAH | .sbcAL | .sbcAA | .andB | .andC
  | .andD | .andE | .andH | .andL | .andA | .xorB | .xorC | .xorD | .xorE | .xorH | .xorL | .xorA | .orB | .orC
  | .orD | .orE | .orH | .orL | .orA | .cpB | .cpC | .cpD | .cpE | .cpH | .cpL | .cpA | .illegalD3 | .illegalDB
  | .illegalDD | .illegalE3 | .illegalE4 | .jpHl | .illegalEB | .illegalEC | .illegalED | .di | .illegalF4
  | .ei | .illegalFC | .illegalFD => 4
  | .ldBcD16 _ | .ldDeD16 _ | .jrR8 _ | .ldHlD16 _ | .ldSpD16 _ | .incMHl | .decMHl | .ldMHlD8 _ | .popBc
  | .popDe | .ldhMA8A _ | .popHl | .ldhAMA8 _ | .popAf | .ldHlSpR8 _ | .bit0MHl | .bit1MHl | .bit2MHl
  | .bit3MHl | .bit4MHl | .bit5MHl | .bit6MHl | .bit7MHl => 12
  | .ldMBcA | .incBc | .ldBD8 _ | .addHlBc | .ldAMBc | .decBc | .ldCD8 _ | .ldMDeA | .incDe | .ldDD8 _
  | .addHlDe | .ldAMDe | .decDe | .ldED8 _ | .ldMHlIncA | .incHl | .ldHD8 _ | .addHlHl | .ldAMHlInc | .decHl
  | .ldLD8 _ | .ldMHlDecA | .incSp | .addHlSp | .ldAMHlDec | .decSp | .ldAD8 _ | .ldBMHl | .ldCMHl | .ldDMHl
  | .ldEMHl | .ldHMHl | .ldLMHl | .ldMHlB | .ldMHlC | .ldMHlD | .ldMHlE | .ldMHlH | .ldMHlL | .ldMHlA | .ldAMHl
  | .addAMHl | .adcAMHl | .subMHl | .sbcAMHl | .andMHl | .xorMHl | .orMHl | .cpMHl | .addAD8 _ | .adcAD8 _
  | .subD8 _ | .sbcAD8 _ | .ldhMCA | .andD8 _ | .xorD8 _ | .ldhAMC | .orD8 _ | .ldSpHl | .cpD8 _ | .rlcB
  | .rlcC | .rlcD | .rlcE | .rlcH | .rlcL | .rlcA | .rrcB | .rrcC | .rrcD | .rrcE | .rrcH | .rrcL | .rrcA
  | .rlB | .rlC | .rlD | .rlE | .rlH | .rlL | .rlA | .rrB | .rrC | .rrD | .rrE | .rrH | .rrL | .rrA | .slaB
  | .slaC | .slaD | .slaE | .slaH | .slaL | .slaA | .sraB | .sraC | .sraD | .sraE | .sraH | .sraL | .sraA
  | .swapB | .swapC | .swapD | .swapE | .swapH | .swapL | .swapA | .srlB | .srlC | .srlD | .srlE | .srlH
  | .srlL | .srlA | .bit0B | .bit0C | .bit0D | .bit0E | .bit0H | .bit0L | .bit0A | .bit1B | .bit1C | .bit1D
  | .bit1E | .bit1H | .bit1L | .bit1A | .bit2B | .bit2C | .bit2D | .bit2E | .bit2H | .bit2L | .bit2A | .bit3B
  | .bit3C | .bit3D | .bit3E | .bit3H | .bit3L | .bit3A | .bit4B | .bit4C | .bit4D | .bit4E | .bit4H | .bit4L
  | .bit4A | .bit5B | .bit5C | .bit5D | .bit5E | .bit5H | .bit5L | .bit5A | .bit6B | .bit6C | .bit6D | .bit6E
  | .bit6H | .bit6L | .bit6A | .bit7B | .bit7C | .bit7D | .bit7E | .bit7H | .bit7L | .bit7A | .res0B | .res0C
  | .res0D | .res0E | .res0H | .res0L | .res0A | .res1B | .res1C | .res1D | .res1E | .res1H | .res1L | .res1A
  | .res2B | .res2C | .res2D | .res2E | .res2H | .res2L | .res2A | .res3B | .res3C | .res3D | .res3E | .res3H
  | .res3L | .res3A | .res4B | .res4C | .res4D | .res4E | .res4H | .res4L | .res4A | .res5B | .res5C | .res5D
  | .res5E | .res5H | .res5L | .res5A | .res6B | .res6C | .res6D | .res6E | .res6H | .res6L | .res6A | .res7B
  | .res7C | .res7D | .res7E | .res7H | .res7L | .res7A | .set0B | .set0C | .set0D | .set0E | .set0H | .set0L
  | .set0A | .set1B | .set1C | .set1D | .set1E | .set1H | .set1L | .set1A | .set2B | .set2C | .set2D | .set2E
  | .set2H | .set2L | .set2A | .set3B | .set3C | .set3D | .set3E | .set3H | .set3L | .set3A | .set4B | .set4C
  | .set4D | .set4E | .set4H | .set4L | .set4A | .set5B | .set5C | .set5D | .set5E | .set5H | .set5L | .set5A
  | .set6B | .set6C | .set6D | .set6E | .set6H | .set6L | .set6A | .set7B | .set7C | .set7D | .set7E | .set7H
  | .set7L | .set7A => 8
  | .ldMA16Sp _ => 20
  | .jrNzR8 _ => if f.holds .nz then 12 else 8
  | .jrZR8 _ => if f.holds .z then 12 else 8
  | .jrNcR8 _ => if f.holds .nc then 12 else 8
  | .jrCR8 _ => if f.holds .c then 12 else 8
  | .retNz => if f.holds .nz then 20 else 8
  | .jpNzA16 _ => if f.holds .nz then 16 else 12
  | .jpA16 _ | .pushBc | .rst00 | .ret | .rst08 | .pushDe | .rst10 | .reti | .rst18 | .pushHl | .rst20
  | .addSpR8 _ | .ldMA16A _ | .rst28 | .pushAf | .rst30 | .ldAMA16 _ | .rst38 | .rlcMHl | .rrcMHl | .rlMHl
  | .rrMHl | .slaMHl | .sraMHl | .swapMHl | .srlMHl | .res0MHl | .res1MHl | .res2MHl | .res3MHl | .res4MHl
  | .res5MHl | .res6MHl | .res7MHl | .set0MHl | .set1MHl | .set2MHl | .set3MHl | .set4MHl | .set5MHl | .set6MHl
  | .set7MHl => 16
  | .callNzA16 _ => if f.holds .nz then 24 else 12
  | .retZ => if f.holds .z then 20 else 8
  | .jpZA16 _ => if f.holds .z then 16 else 12
  | .prefixCb op2 => if op2.toNat % 8 = 6 then (if op2.toNat / 64 = 1 then 12 else 16) else 8
  | .callZA16 _ => if f.holds .z then 24 else 12
  | .callA16 _ => 24
  | .retNc => if f.holds .nc then 20 else 8
  | .jpNcA16 _ => if f.holds .nc then 16 else 12
  | .callNcA16 _ => if f.holds .nc then 24 else 12
  | .retC => if f.holds .c then 20 else 8
  | .jpCA16 _ => if f.holds .c then 16 else 12
  | .callCA16 _ => if f.holds .c then 24 else 12

end Sys2Proof
end

