-- ==== Sys2Proof/Safety.lean ====
section
/-! DEFINITION. What counts as a safe run (60_exceptions.md R401, 70_reset_and_hazards.md R579), the invariant of the
machine, and the words in which statements say what an instruction writes and what it leaves alone. -/

namespace Sys2Proof.Machine

/-- A state a program may be in: not the terminal state, which is "failure of the program, never completion" (R579). -/
def State.safe (s : State) : Prop := s.stopped = none

/-- A safe run of `k` steps: every state it passes through is safe (R401). -/
def SafeRun (k : Nat) (s : State) : Prop :=
  match k with
  | 0 => s.safe
  | k + 1 => s.safe ∧ ∃ t, step s = .next t ∧ SafeRun k t

/-- The addresses of the byte buffers the core holds: `vram`, `wram`, `oam`, `hram` (20_memory.md R130). -/
def bufferAddress (a : Nat) : Bool :=
  (decide (0x8000 ≤ a) && decide (a < 0xA000)) || (decide (0xC000 ≤ a) && decide (a < 0xE000))
    || (decide (0xFE00 ≤ a) && decide (a < 0xFEA0)) || (decide (0xFF80 ≤ a) && decide (a < 0xFFFF))

/-- A change of the collaborators keeps the canonical form of what it installs. -/
def HostEvent.wf (e : HostEvent) : Prop :=
  match e with
  | .extBecomes x => x.rom.wf = true
  | .requestSerial | .requestJoypad | .consumeFrame | .reset => True

/-- Every store is in its one canonical form, and `mem` lists addresses of the core's buffers only. -/
structure State.StorageOk (s : State) : Prop where
  mem : s.mem.wf = true
  keys : ∀ e ∈ s.mem, bufferAddress e.1 = true
  rom : s.ext.rom.wf = true
  inputs : ∀ acts ∈ s.inputs, ∀ e ∈ acts, e.wf
  draw : Sparse.wf s.ppu.fbDraw = true
  ready : Sparse.wf s.ppu.fbReady = true

/-- The mode of a line and an offset in it (61_devices.md R481). -/
def modeAt (ly off : Nat) : Mode :=
  if ly < 144 then (if off < 80 then .search else if off < 252 then .transfer else .hblank) else .vblank

/-- Where the picture generator stands: a line of the frame, an offset in the line, and the mode these two give (R481);
at most ten sprites selected, each an entry of the table (10_state.md R71). -/
structure State.PhaseOk (s : State) : Prop where
  line : s.ppu.ly.toNat < 154
  offset : s.ppu.lineCycle < 456
  mode : s.ppu.mode = modeAt s.ppu.ly.toNat s.ppu.lineCycle
  count : s.ppu.visible.length ≤ 10
  sprites : ∀ i ∈ s.ppu.visible, i < 40

/-- The DMA engine between steps: a transfer under way has bytes left, its source is the page of the register, and less
than one byte's cycles are saved up (10_state.md R73; 61_devices.md R502). -/
structure State.DmaOk (s : State) : Prop where
  left : s.dma.active = true → s.dma.index < 160
  index : s.dma.index ≤ 160
  source : s.dma.src = pairOf s.dma.reg 0#8
  budget : s.dma.budget < 4

/-- The clock between steps: whole machine cycles, no origin in the future, and the picture generator level with the
timer unless a fatal step left it behind (61_devices.md R461; 10_state.md R53, R74; 60_exceptions.md R401). -/
structure State.ClockOk (s : State) : Prop where
  whole : s.timer.cycles % 4 = 0
  origin : s.timer.divOrigin ≤ s.timer.cycles
  behind : s.ppu.seen ≤ s.timer.cycles
  level : s.stopped = none → s.ppu.seen = s.timer.cycles

/-- The boot overlay: no longer than BOOT_MAX, and there if it is mapped (20_memory.md R133). -/
structure State.BootOk (s : State) : Prop where
  short : s.bootImage.length ≤ 256
  there : s.bootActive = true → s.bootImage ≠ []

/-- The invariant of the machine between top-level steps. -/
structure State.Inv (s : State) : Prop where
  storage : s.StorageOk
  phase : s.PhaseOk
  dma : s.DmaOk
  clock : s.ClockOk
  boot : s.BootOk

/-- The position in the frame, in cycles (61_devices.md R481). -/
def framePosition (s : State) : Nat := s.ppu.ly.toNat * 456 + s.ppu.lineCycle

/-- The offset in the line at which a mode ends (61_devices.md R480). -/
def modeEnd (m : Mode) : Nat :=
  match m with
  | .search => 80
  | .transfer => 252
  | .hblank | .vblank => 456

/-- The state at the loop of `PpuStep(total)` (61_devices.md R480): the DMA advanced by the cycles since the last call, and
these cycles added to the offset in the line. -/
def afterElapsed (total : Nat) (s : State) : State :=
  { dmaAdvance (total - s.ppu.seen) s with
    ppu := { s.ppu with seen := total, lineCycle := s.ppu.lineCycle + (total - s.ppu.seen) } }

/-- `t` after the line compare (61_devices.md R487): the match flag says whether the line is LYC, and while it is and
enable bit 6 is set, lcd-status is requested. -/
def lineCompared (t : State) : State :=
  { t with
    ppu := { t.ppu with lycMatch := decide (t.ppu.ly = t.ppu.lyc) }
    irq := { t.irq with
      requested := t.irq.requested ||| (if t.ppu.ly = t.ppu.lyc ∧ t.ppu.statEn.getLsbD 3 = true then 0b00010#5 else 0#5) } }

/-- What a `CpuRead` of an address yields: the read comes after its 4 cycles (00_scope.md R12). -/
def readValue (a : Word) (s : State) : Byte := (memPeek a (tick 4 s)).getD 0xFF#8

/-- The state, outside the CPU, that a `CpuRead` of an address leaves. -/
def afterRead (a : Word) (s : State) : State := memReadEffect a (tick 4 s)

/-- `t` is `u` but for the CPU's registers: what `u` says of memory, devices, clock and interrupts holds of `t`. -/
def OutsideCpu (u t : State) : Prop := { t with cpu := u.cpu } = u

/-- SP, PC and the halted flag are as before. -/
def SpecialsKept (s t : State) : Prop :=
  t.cpu.sp = s.cpu.sp ∧ t.cpu.pc = s.cpu.pc ∧ t.cpu.halted = s.cpu.halted

/-- The seven 8-bit registers are as before. -/
def RegsKept (s t : State) : Prop := ∀ q, t.reg q = s.reg q

/-- The registers other than one are as before, and that one holds a value. -/
def RegWritten (r : Reg8) (v : Byte) (s t : State) : Prop := t.reg r = v ∧ ∀ q, q ≠ r → t.reg q = s.reg q

/-- HL holds a value, and A, B, C, D, E are as before. -/
def HlWritten (w : Word) (s t : State) : Prop := t.hl = w ∧ ∀ q, q ≠ .h → q ≠ .l → t.reg q = s.reg q

/-- A pair holds a value, and every 8-bit register outside it is as before, and so is SP unless it is the pair. -/
def PairWritten (p : Pair) (w : Word) (s t : State) : Prop :=
  t.pair p = w ∧ (∀ q, q ≠ p → t.pair q = s.pair q) ∧ t.cpu.a = s.cpu.a

/-- Every byte of the core's memory outside one address is as before. -/
def BytesKeptBut (a : Word) (s t : State) : Prop := ∀ b, b ≠ a.toNat → t.mem.read b = s.mem.read b

/-- Every byte of the core's memory outside two addresses is as before. -/
def BytesKeptBut2 (a b : Word) (s t : State) : Prop :=
  ∀ k, k ≠ a.toNat → k ≠ b.toNat → t.mem.read k = s.mem.read k

/-- The source operand of an accumulator operation: a register, the byte at HL, an immediate (42_alu8.md R255 to R257). -/
inductive AluSource where
  | reg (r : Reg8) | atHl | imm (n : Byte)
deriving DecidableEq, Repr

/-- The instruction of an accumulator operation and a source. -/
def AluSource.instr (o : AluSource) (op : AluOp) : Instr :=
  match o with
  | .reg r => .mkAluR op r
  | .atHl => .mkAluM op
  | .imm n => .mkAluImm op n

/-- The source's value. -/
def AluSource.value (o : AluSource) (s : State) : Byte :=
  match o with
  | .reg r => s.reg r
  | .atHl => readValue s.hl s
  | .imm n => n

/-- The state after the source has been read. -/
def AluSource.after (o : AluSource) (s : State) : State :=
  match o with
  | .reg _ => s
  | .atHl => afterRead s.hl s
  | .imm _ => s

/-- An instruction that loads register `r` from the address `a`: it completes, only `r` and the clock change. -/
def LoadsFrom (i : Instr) (r : Reg8) (a : Word) (s : State) : Prop :=
  ∃ t, exec i s = .next t ∧ RegWritten r (readValue a s) s t ∧ t.cpu.f = s.cpu.f ∧ SpecialsKept s t
    ∧ OutsideCpu (afterRead a s) t ∧ ∀ b, t.mem.read b = s.mem.read b

/-- An instruction that loads A from the address in HL and then moves HL: only A, HL and the clock change. -/
def LoadsAndMovesHl (i : Instr) (w : Word) (s : State) : Prop :=
  ∃ t, exec i s = .next t ∧ t.cpu.a = readValue s.hl s ∧ t.hl = w
    ∧ (∀ q, q ≠ .a → q ≠ .h → q ≠ .l → t.reg q = s.reg q) ∧ t.cpu.f = s.cpu.f ∧ SpecialsKept s t
    ∧ OutsideCpu (afterRead s.hl s) t ∧ ∀ b, t.mem.read b = s.mem.read b

/-- An instruction that stores `v` at the address `a`: it completes, and every register and every other byte is kept. -/
def StoresAt (i : Instr) (a : Word) (v : Byte) (s : State) : Prop :=
  ∃ t, exec i s = .next t ∧ OutsideCpu (memWrite a v (tick 4 s)) t ∧ BytesKeptBut a s t ∧ RegsKept s t
    ∧ t.cpu.f = s.cpu.f ∧ SpecialsKept s t

/-- An instruction that stores A at the address in HL and then moves HL. -/
def StoresAndMovesHl (i : Instr) (w : Word) (s : State) : Prop :=
  ∃ t, exec i s = .next t ∧ OutsideCpu (memWrite s.hl s.cpu.a (tick 4 s)) t ∧ BytesKeptBut s.hl s t
    ∧ HlWritten w s t ∧ t.cpu.f = s.cpu.f ∧ SpecialsKept s t

/-- An instruction that changes nothing in the CPU but PC, in `n` cycles, and nothing else but the clock. -/
def JumpsTo (i : Instr) (a : Word) (n : Nat) (s : State) : Prop :=
  ∃ t, exec i s = .next t ∧ t.cpu = { s.cpu with pc := a } ∧ OutsideCpu (tick n s) t
    ∧ ∀ b, t.mem.read b = s.mem.read b

/-- The state, outside the CPU, after the two writes of `Push16(w)`: the high byte at SP - 1, the low byte at SP - 2
(00_scope.md R12). -/
def afterPush (w : Word) (s : State) : State :=
  memWrite (s.cpu.sp - 2#16) (lo w) (tick 4 (memWrite (s.cpu.sp - 1#16) (hi w) (tick 4 s)))

/-- The value `Pop16()` yields: the low byte at SP, the high byte at SP + 1, four cycles later (00_scope.md R12). -/
def popValue (s : State) : Word :=
  pairOf (readValue (s.cpu.sp + 1#16) (afterRead s.cpu.sp s)) (readValue s.cpu.sp s)

/-- The state, outside the CPU, after the two reads of `Pop16()`. -/
def afterPop (s : State) : State := afterRead (s.cpu.sp + 1#16) (afterRead s.cpu.sp s)

/-- An instruction that pushes PC after an internal cycle and jumps (45_control.md R326, R331). -/
def CallsTo (i : Instr) (a : Word) (s : State) : Prop :=
  ∃ t, exec i s = .next t ∧ t.cpu = { s.cpu with pc := a, sp := s.cpu.sp - 2#16 }
    ∧ OutsideCpu (afterPush s.cpu.pc (tick 4 s)) t ∧ BytesKeptBut2 (s.cpu.sp - 1#16) (s.cpu.sp - 2#16) s t

/-- An instruction that pops PC after `n` cycles and spends one internal cycle (45_control.md R328, R329). -/
def ReturnsAfter (i : Instr) (n : Nat) (s : State) : Prop :=
  ∃ t, exec i s = .next t ∧ t.cpu = { s.cpu with pc := popValue (tick n s), sp := s.cpu.sp + 2#16 }
    ∧ OutsideCpu (tick 4 (afterPop (tick n s))) t ∧ ∀ b, t.mem.read b = s.mem.read b

/-- An operand that is read and may be written back: a register, or the byte at HL (30_encoding.md R163). -/
inductive Place where
  | reg (r : Reg8) | atHl
deriving DecidableEq, Repr

/-- The value at a place. -/
def Place.value (o : Place) (s : State) : Byte :=
  match o with
  | .reg r => s.reg r
  | .atHl => readValue s.hl s

/-- The state after a place has been read. -/
def Place.after (o : Place) (s : State) : State :=
  match o with
  | .reg _ => s
  | .atHl => afterRead s.hl s

/-- From `s` to `t` a place was read and `v` written to it, and no other register and no other byte. -/
def Place.Wrote (o : Place) (v : Byte) (s t : State) : Prop :=
  match o with
  | .reg r => RegWritten r v s t ∧ SpecialsKept s t ∧ OutsideCpu s t
  | .atHl =>
    RegsKept s t ∧ SpecialsKept s t ∧ OutsideCpu (memWrite s.hl v (tick 4 (afterRead s.hl s))) t
      ∧ BytesKeptBut s.hl s t

/-- `INC` of a place (42_alu8.md R279, R280). -/
def Place.inc (o : Place) : Instr :=
  match o with
  | .reg r => .mkInc r
  | .atHl => .incMHl

/-- `DEC` of a place (42_alu8.md R281, R282). -/
def Place.dec (o : Place) : Instr :=
  match o with
  | .reg r => .mkDec r
  | .atHl => .decMHl

/-- A rotate or shift of a place (46_cb_bitops.md R342 to R357). -/
def Place.rot (o : Place) (op : RotOp) : Instr :=
  match o with
  | .reg r => .mkRotR op r
  | .atHl => .mkRotM op

/-- `BIT` of a place (46_cb_bitops.md R358, R359). -/
def Place.bit (o : Place) (b : Fin 8) : Instr :=
  match o with
  | .reg r => .mkBitR b r
  | .atHl => .mkBitM b

/-- `RES` of a place (46_cb_bitops.md R360, R361). -/
def Place.res (o : Place) (b : Fin 8) : Instr :=
  match o with
  | .reg r => .mkResR b r
  | .atHl => .mkResM b

/-- `SET` of a place (46_cb_bitops.md R362, R363). -/
def Place.set (o : Place) (b : Fin 8) : Instr :=
  match o with
  | .reg r => .mkSetR b r
  | .atHl => .mkSetM b

/-- Bit `k` of the result of a rotate or shift (46_cb_bitops.md R341), bit by bit. -/
def rotatedBit (op : RotOp) (v : Byte) (cin : Bool) (k : Nat) : Bool :=
  match op with
  | .rlc => v.getLsbD ((k + 7) % 8)
  | .rrc => v.getLsbD ((k + 1) % 8)
  | .rl => if k = 0 then cin else v.getLsbD (k - 1)
  | .rr => if k = 7 then cin else v.getLsbD (k + 1)
  | .sla => if k = 0 then false else v.getLsbD (k - 1)
  | .sra => if k = 7 then v.getLsbD 7 else v.getLsbD (k + 1)
  | .swap => v.getLsbD ((k + 4) % 8)
  | .srl => if k = 7 then false else v.getLsbD (k + 1)

/-- The carry a rotate or shift leaves (46_cb_bitops.md R341). -/
def rotatedCarry (op : RotOp) (v : Byte) : Bool :=
  match op with
  | .rlc | .rl | .sla => v.getLsbD 7
  | .rrc | .rr | .sra | .srl => v.getLsbD 0
  | .swap => false

/-- The packed decimal byte of a number below 100, for statements about `DAA` (42_alu8.md R283). -/
def packedDecimal (n : Nat) : Byte := BitVec.ofNat 8 (n / 10 * 16 + n % 10)

/-- The eleven unassigned instructions with their bytes (47_system.md R387). -/
def unassignedRows : List (Instr × Byte) :=
  [(.illegalD3, 0xD3#8), (.illegalDB, 0xDB#8), (.illegalDD, 0xDD#8), (.illegalE3, 0xE3#8), (.illegalE4, 0xE4#8),
   (.illegalEB, 0xEB#8), (.illegalEC, 0xEC#8), (.illegalED, 0xED#8), (.illegalF4, 0xF4#8), (.illegalFC, 0xFC#8),
   (.illegalFD, 0xFD#8)]

/-- The state `step` starts its fetch in: what the outside does, then the dispatch (60_exceptions.md R440). -/
def atFetch (s : State) : State := dispatch (betweenSteps s)

/-- What `step` adds around an instruction that ended in `r`: the picture generator, driven by the timer's cycles, unless
a fatal condition ended the step (60_exceptions.md R401, R440; 70_reset_and_hazards.md R580). -/
def stepEnds (r : Result) : Result :=
  match r with
  | .next t => .next (if t.stopped.isSome then t else ppuStep t.timer.cycles t)
  | .fault f => .fault f
  | .refused f => .refused f

end Sys2Proof.Machine
end

