-- ==== Sys2Proof/WellFormed.lean ====
section
/-! DEFINITION. Which terms of `Instr` are instructions. Every operand is typed by its width, so the one check left is
that the prefix is not taken for an instruction of its own (47_system.md R386). -/

namespace Sys2Proof

/-- "It is not an instruction of its own: prefix and second byte form one instruction" (R386): the row `PREFIX_CB` is no
well-formed instruction, its second byte makes it one of the 256 extended rows. -/
def Instr.wellFormed (i : Instr) : Bool :=
  match i with
  | .prefixCb _ => false
  | _ => true

/-- The check as a proposition. -/
abbrev Instr.WellFormed (i : Instr) : Prop := i.wellFormed = true

end Sys2Proof
end

