-- ==== Sys2Proof/Certificates/Slice0/Obligations.lean ====
section
/-! DEFINITION. The statements about the machine, one definition each. Every docstring names the rule it formalises. -/

section

open Sys2Proof Sys2Proof.Machine

/-- A few words written out from the grids of 30_encoding.md R179 and R180 decode to the instructions they stand for.
-/
def Obligations.SampleWordsDecode : Prop :=
  decode [0b00000000#8] = .ok (.nop, []) ∧
  decode [0b00000001#8, 0x11#8, 0x22#8] = .ok (.ldBcD16 0x2211#16, []) ∧
  decode [0b01000001#8] = .ok (.ldBC, []) ∧
  decode [0b10001110#8] = .ok (.adcAMHl, []) ∧
  decode [0b00111001#8] = .ok (.addHlSp, []) ∧
  decode [0b00011111#8] = .ok (.rra, []) ∧
  decode [0b11010010#8, 0x50#8, 0x01#8] = .ok (.jpNcA16 0x0150#16, []) ∧
  decode [0b11001011#8, 0b00110111#8] = .ok (.swapA, []) ∧
  decode [0b11001011#8, 0b01111110#8] = .ok (.bit7MHl, []) ∧
  decode [0b01110110#8] = .ok (.halt, []) ∧
  decode [0b11110101#8] = .ok (.pushAf, []) ∧
  decode [0b11011101#8] = .ok (.illegalDD, [])

/-- Decoding the bytes of any well-formed instruction, whatever follows them, gives it back with every operand
(30_encoding.md R161 to R180). The encoding of STOP is the one byte the machine fetches (47_system.md R383), where R175
gives it two: log entry 8. -/
def Obligations.DecodeOfEncode : Prop :=
  ∀ (i : Instr) (rest : List Byte), i.WellFormed → decode (encode i ++ rest) = .ok (i, rest)

/-- The other direction: bytes that decode are the bytes of a well-formed instruction, so each word has one meaning;
and bytes fail to decode only by being fewer than the machine fetches for the first of them (30_encoding.md R173, R175,
R179, R180; 47_system.md R383). For STOP the machine fetches one byte, as R383 says, where R175 gives it two: the
model's reading of the two, log entry 8. -/
def Obligations.EncodeOfDecode : Prop :=
  (∀ (bs rest : List Byte) (i : Instr), decode bs = .ok (i, rest) → i.WellFormed ∧ bs = encode i ++ rest) ∧
  (∀ (op : Byte) (rest : List Byte), (∃ e, decode (op :: rest) = .error e) ↔ rest.length + 1 < fetchedLength op) ∧
  (∀ op : Byte, 1 ≤ fetchedLength op ∧ fetchedLength op ≤ 3)

/-- A step runs the decoded instruction (60_exceptions.md R440): what the outside does, the dispatch, the fetch at
PC, `exec` of the instruction the fetched bytes decode to, the picture generator. It rests on the spec's own
decisions D19, D34. -/
def Obligations.StepRunsDecoded : Prop :=
  ∀ (s : State) (i : Instr) (rest : List Byte), s.bootImage.length ≤ 256 → (betweenSteps s).stopped = none →
    (atFetch s).cpu.halted = false → decode (fetchInstr (atFetch s)).1 = .ok (i, rest) →
    step s = stepEnds (exec i (fetchInstr (atFetch s)).2)

/-- What the fetch of an instruction reads and leaves: its bytes are those the bus answers at PC and after it, each
after 4 cycles; PC is behind them; no other register changes (10_state.md R35; 00_scope.md R12; 30_encoding.md R175).
Of STOP one byte is fetched (47_system.md R383; log entry 8). It rests on the spec's own decisions D4, D6. -/
def Obligations.FetchReadsAtPc : Prop :=
  ∀ (s : State) (op : Byte), op = readValue s.cpu.pc s →
    (fetchInstr s).1.length = fetchedLength op ∧
    (fetchInstr s).1[0]? = some op ∧
    (2 ≤ fetchedLength op →
      (fetchInstr s).1[1]? = some (readValue (s.cpu.pc + 1#16) (afterRead s.cpu.pc s))) ∧
    (3 ≤ fetchedLength op →
      (fetchInstr s).1[2]? =
        some (readValue (s.cpu.pc + 2#16) (afterRead (s.cpu.pc + 1#16) (afterRead s.cpu.pc s)))) ∧
    (fetchInstr s).2.cpu = { s.cpu with pc := s.cpu.pc + BitVec.ofNat 16 (fetchedLength op) } ∧
    (fetchInstr s).2.timer.cycles = s.timer.cycles + 4 * fetchedLength op ∧
    (fetchInstr s).2.mem = s.mem ∧ (fetchInstr s).2.ppu = s.ppu ∧ (fetchInstr s).2.dma = s.dma

/-- Code in the core's own memory: when the three bytes at PC begin with an instruction, a step of a running machine
with no interrupt to take and no act of the outside runs that instruction, PC behind it and its fetch charged
(20_memory.md R152); of STOP one byte is fetched (47_system.md R383; log entry 8). -/
def Obligations.StepRunsCodeInMemory : Prop :=
  ∀ (s : State) (i : Instr) (rest : List Byte), s.bootImage.length ≤ 256 → s.inputs = [] → s.stopped = none →
    s.cpu.halted = false → s.irq.ime = false → s.cpu.pc.toNat + 2 < 65536 →
    (∀ k, k < 3 → bufferAddress (s.cpu.pc.toNat + k) = true) →
    decode [s.mem.read s.cpu.pc.toNat, s.mem.read (s.cpu.pc.toNat + 1), s.mem.read (s.cpu.pc.toNat + 2)]
      = .ok (i, rest) →
    step s = stepEnds (exec i
      { tick (4 * (encode i).length) s with
        cpu := { s.cpu with pc := s.cpu.pc + BitVec.ofNat 16 (encode i).length } })

/-- A halted CPU with nothing requested and enabled spends 4 cycles and fetches nothing (47_system.md R382;
60_exceptions.md R435, R440); a halted CPU with something requested and enabled fetches in the same step, halted no
more (R414, R441). It rests on the spec's own decisions D8, D10, D13. -/
def Obligations.HaltedStep : Prop :=
  ∀ s : State, s.bootImage.length ≤ 256 → s.inputs = [] → s.stopped = none → s.cpu.halted = true →
    (s.irq.requested &&& s.irq.enabled = 0#5 →
      ∃ t, step s = .next t ∧ t = ppuStep (s.timer.cycles + 4) (tick 4 s) ∧ t.cpu = s.cpu) ∧
    (s.irq.requested &&& s.irq.enabled ≠ 0#5 → (dispatch s).cpu.halted = false)

/-- The terminal state: "no later top-level step changes anything", however many are run (60_exceptions.md R401). It
rests on the spec's own decision D37. -/
def Obligations.StoppedIsTerminal : Prop :=
  ∀ (k : Nat) (s : State), s.bootImage.length ≤ 256 → s.inputs = [] → s.stopped ≠ none →
    Host.Core.run Sys2Proof.core k s = .next s

/-- The step that fetches an unassigned byte or `STOP` from the core's own memory: one byte fetched, 4 cycles, no
picture generator, the reason recorded, nothing else changed (47_system.md R383, R387; 60_exceptions.md R401). It
rests on the spec's own decisions D12, D37. -/
def Obligations.FatalByteEndsTheStep : Prop :=
  ∀ (s : State) (op : Byte), s.bootImage.length ≤ 256 → s.inputs = [] → s.stopped = none → s.cpu.halted = false →
    s.irq.ime = false → bufferAddress s.cpu.pc.toNat = true → s.mem.read s.cpu.pc.toNat = op →
    (op = 0x10#8 →
      step s = .next { tick 4 s with
        cpu := { s.cpu with pc := s.cpu.pc + 1#16 }
        stopped := some .stopNotModelled }) ∧
    ((∃ i, (i, op) ∈ unassignedRows) →
      step s = .next { tick 4 s with
        cpu := { s.cpu with pc := s.cpu.pc + 1#16 }
        stopped := some (.unknownOpcode op s.cpu.pc) })

/-- Every step of a machine that was started answers a next state (60_exceptions.md R403, R444). A machine configured with
an oversized boot image "is not started" (20_memory.md R133; R402; decision D35): what `step` answers in such a state,
the fault, is the model's own choice, log entry 10. -/
def Obligations.StepAnswers : Prop :=
  ∀ s : State, (s.bootImage.length ≤ 256 → ∃ t, step s = .next t) ∧
    (256 < s.bootImage.length → step s = .fault .oversizedBootImage)

/-- The machine right after reset (10_state.md R90), and the acts of the outside between steps: a reset by the host gives
the core those values, takes it out of `Stopped` and keeps the boot image, the collaborators and the inputs to come
(70_reset_and_hazards.md R560); the serial and joypad requests set their bit of IF (60_exceptions.md R411; 61_devices.md
R545); the host consumes the ready frame (10_state.md R72); the collaborators change what they answer (R442). What the
collaborators hold at reset is the model's choice (log entry 5), and so are the list of gaps and its order (log entry
6) and what a reset keeps of the inputs (log entry 17). It rests on the spec's own decisions D2, D3, D14, D28, D31, D34,
D35, D43. -/
def Obligations.ResetValues : Prop :=
  State.reset.cpu.pc = 0x0000#16 ∧ State.reset.cpu.sp = 0xFFFF#16 ∧ (∀ q, State.reset.reg q = 0x00#8) ∧
  State.reset.cpu.f = ⟨false, false, false, false⟩ ∧ State.reset.cpu.halted = false ∧
  State.reset.irq = ⟨0#5, 0#5, false⟩ ∧
  State.reset.timer = ⟨0, 0, 0#8, 0#8, 0#3⟩ ∧
  State.reset.ppu.ly = 0#8 ∧ State.reset.ppu.mode = .search ∧ State.reset.ppu.lineCycle = 0 ∧
  State.reset.ppu.statEn = 0#4 ∧ State.reset.ppu.lycMatch = false ∧ State.reset.ppu.lyc = 0#8 ∧
  State.reset.ppu.scy = 0#8 ∧ State.reset.ppu.scx = 0#8 ∧ State.reset.ppu.wy = 0#8 ∧ State.reset.ppu.wx = 0#8 ∧
  State.reset.ppu.lcdc = 0#8 ∧ State.reset.ppu.bgp = 0#8 ∧ State.reset.ppu.obp0 = 0#8 ∧ State.reset.ppu.obp1 = 0#8 ∧
  State.reset.ppu.visible = [] ∧ State.reset.ppu.frameReady = false ∧ State.reset.ppu.seen = 0 ∧
  (∀ k, State.reset.ppu.fbDraw.get k = 0#2) ∧ (∀ k, State.reset.ppu.fbReady.get k = 0#2) ∧
  State.reset.dma = ⟨false, 0x0000#16, 0, 0, 0#8⟩ ∧
  (∀ a, State.reset.mem.read a = 0x00#8) ∧ State.reset.stopped = none ∧
  (∀ (image : List Byte) (ext : ExtDevice) (ins : List (List HostEvent)),
    State.resetWith image ext ins =
      { State.reset with bootActive := !image.isEmpty, bootImage := image, ext := ext, inputs := ins }) ∧
  (∀ (s : State) (x : ExtDevice),
    hostEvent .reset s = { State.reset with
      bootActive := !s.bootImage.isEmpty, bootImage := s.bootImage, ext := s.ext, inputs := s.inputs } ∧
    hostEvent .requestSerial s = { s with irq := { s.irq with requested := s.irq.requested ||| 0b01000#5 } } ∧
    hostEvent .requestJoypad s = { s with irq := { s.irq with requested := s.irq.requested ||| 0b10000#5 } } ∧
    hostEvent .consumeFrame s = { s with ppu := { s.ppu with frameReady := false } } ∧
    hostEvent (.extBecomes x) s = { s with ext := x }) ∧
  (∀ (s : State) (e : HostEvent) (acts : List HostEvent) (later : List (List HostEvent)),
    (s.inputs = [] → betweenSteps s = s) ∧
    (s.inputs = [] :: later → betweenSteps s = { s with inputs := later }) ∧
    (s.inputs = (e :: acts) :: later →
      betweenSteps s = betweenSteps (hostEvent e { s with inputs := acts :: later })))

/-- The invariant of the machine holds right after reset. It rests on the spec's own decision D31. -/
def Obligations.ResetMeetsInvariant : Prop :=
  ∀ (image : List Byte) (ext : ExtDevice) (ins : List (List HostEvent)),
    image.length ≤ 256 → ext.rom.wf = true → (∀ acts ∈ ins, ∀ e ∈ acts, e.wf) →
    (State.resetWith image ext ins).Inv

/-- Every step keeps the invariant: canonical storage of the core's buffers only, a legal line, offset and mode that
agree (61_devices.md R481), at most ten sprites selected, a DMA engine in range, a clock of whole machine cycles. It
rests on the spec's own decisions D20, D28, D34. -/
def Obligations.StepKeepsInvariant : Prop :=
  ∀ s t : State, s.Inv → step s = .next t → t.Inv

/-- The host's interface: from a state with canonical storage, the instruction a table word decodes to is the one the
very next step fetches and runs (the model's own, log entry 7). -/
def Obligations.WithFetchWordRuns : Prop :=
  ∀ (s : State) (nbits w : Nat) (i : Instr), s.StorageOk → s.bootImage.length ≤ 256 →
    decodeTableWord nbits w = some i →
    ∃ rest, decode (fetchInstr (atFetch (s.withFetchWord nbits w))).1 = .ok (i, rest) ∧
      step (s.withFetchWord nbits w) = stepEnds (exec i (fetchInstr (atFetch (s.withFetchWord nbits w))).2)

/-- The cycles of an instruction, its fetch included, are those of the table (70_reset_and_hazards.md R586), for
every instruction and both outcomes of a condition. It rests on the spec's own decisions D6, D9. -/
def Obligations.InstructionCycles : Prop :=
  ∀ (s t : State) (i : Instr) (rest : List Byte), s.cpu.halted = false →
    decode (fetchInstr s).1 = .ok (i, rest) → cpuStep s = .next t →
    t.timer.cycles = s.timer.cycles + i.cycles s.cpu.f

/-- What a top-level step adds to the clock: at least 4 cycles and at most 44 (70_reset_and_hazards.md R587). It
rests on the spec's own decisions D9, D10. -/
def Obligations.StepClockBounds : Prop :=
  ∀ s t : State, s.inputs = [] → s.stopped = none → step s = .next t →
    s.timer.cycles + 4 ≤ t.timer.cycles ∧ t.timer.cycles ≤ s.timer.cycles + 44

/-- `LD r,r'` and `LD r,d8` (40_load8.md R201, R202): the destination only, and no cycle beyond the fetch. -/
def Obligations.LoadRegister : Prop :=
  ∀ (dst src : Reg8) (n : Byte) (s : State),
    (∃ t, exec (.mkLdRR dst src) s = .next t ∧ RegWritten dst (s.reg src) s t ∧ t.cpu.f = s.cpu.f
      ∧ SpecialsKept s t ∧ OutsideCpu s t) ∧
    (∃ t, exec (.mkLdImm dst n) s = .next t ∧ RegWritten dst n s t ∧ t.cpu.f = s.cpu.f
      ∧ SpecialsKept s t ∧ OutsideCpu s t)

/-- The loads from memory (40_load8.md R203, R206, R207, R210, R212, R214, R216, R217). -/
def Obligations.LoadFromMemory : Prop :=
  ∀ (dst : Reg8) (a : Word) (n : Byte) (s : State),
    LoadsFrom (.mkLdM dst) dst s.hl s ∧ LoadsFrom .ldAMBc .a s.bc s ∧ LoadsFrom .ldAMDe .a s.de s ∧
    LoadsFrom (.ldAMA16 a) .a a s ∧ LoadsFrom .ldhAMC .a (BitVec.ofNat 16 (0xFF00 + s.cpu.c.toNat)) s ∧
    LoadsFrom (.ldhAMA8 n) .a (BitVec.ofNat 16 (0xFF00 + n.toNat)) s ∧
    LoadsAndMovesHl .ldAMHlInc (s.hl + 1#16) s ∧ LoadsAndMovesHl .ldAMHlDec (s.hl - 1#16) s

/-- The stores to memory (40_load8.md R204, R205, R208, R209, R211, R213, R215, R218, R219): the byte at the address,
and no other byte of the core's memory. -/
def Obligations.StoreToMemory : Prop :=
  ∀ (src : Reg8) (a : Word) (n : Byte) (s : State),
    StoresAt (.mkLdMR src) s.hl (s.reg src) s ∧ StoresAt (.ldMHlD8 n) s.hl n s ∧
    StoresAt .ldMBcA s.bc s.cpu.a s ∧ StoresAt .ldMDeA s.de s.cpu.a s ∧ StoresAt (.ldMA16A a) a s.cpu.a s ∧
    StoresAt .ldhMCA (BitVec.ofNat 16 (0xFF00 + s.cpu.c.toNat)) s.cpu.a s ∧
    StoresAt (.ldhMA8A n) (BitVec.ofNat 16 (0xFF00 + n.toNat)) s.cpu.a s ∧
    StoresAndMovesHl .ldMHlIncA (s.hl + 1#16) s ∧ StoresAndMovesHl .ldMHlDecA (s.hl - 1#16) s

/-- `LD rr,d16`, `LD SP,HL`, `LD (a16),SP` (41_load16_stack.md R231, R232, R233; 20_memory.md R141). -/
def Obligations.SixteenBitLoads : Prop :=
  ∀ (p : Pair) (n : Word) (s : State),
    (∃ t, exec (.mkLdPair p n) s = .next t ∧ PairWritten p n s t ∧ t.cpu.f = s.cpu.f ∧ t.cpu.pc = s.cpu.pc
      ∧ t.cpu.halted = s.cpu.halted ∧ OutsideCpu s t) ∧
    (∃ t, exec .ldSpHl s = .next t ∧ t.cpu = { s.cpu with sp := s.hl } ∧ OutsideCpu (tick 4 s) t) ∧
    (∃ t, exec (.ldMA16Sp n) s = .next t ∧ t.cpu = s.cpu
      ∧ OutsideCpu (memWrite (n + 1#16) (hi s.cpu.sp) (tick 4 (memWrite n (lo s.cpu.sp) (tick 4 s)))) t
      ∧ BytesKeptBut2 n (n + 1#16) s t)

/-- `ADD SP,r8` and `LD HL,SP+r8`: the signed sum, and the flags of the unsigned addition of the low byte
(43_alu16.md R304, R305; 41_load16_stack.md R234). -/
def Obligations.SpRelative : Prop :=
  ∀ (e : Byte) (s : State) (sum : Word) (fl : Flags),
    sum = BitVec.ofInt 16 (s.cpu.sp.toNat + e.toInt) →
    fl = { z := false
           n := false
           h := decide (s.cpu.sp.toNat % 16 + e.toNat % 16 > 15)
           c := decide (s.cpu.sp.toNat % 256 + e.toNat > 255) } →
    (∃ t, exec (.addSpR8 e) s = .next t ∧ t.cpu = { s.cpu with sp := sum, f := fl } ∧ OutsideCpu (tick 8 s) t) ∧
    (∃ t, exec (.ldHlSpR8 e) s = .next t ∧ HlWritten sum s t ∧ t.cpu.f = fl ∧ SpecialsKept s t
      ∧ OutsideCpu (tick 4 s) t)

/-- F as a byte (10_state.md R36): the four flags in the low nibble, the upper nibble always zero; writing F keeps
those four bits and drops the others. It rests on the spec's own decision D1. -/
def Obligations.FlagsAsByte : Prop :=
  (∀ f : Flags, ∀ k, k < 8 → f.toByte.getLsbD k =
    (if k = 3 then f.z else if k = 2 then f.n else if k = 1 then f.h else if k = 0 then f.c else false)) ∧
  (∀ v : Byte, Flags.ofByte v = ⟨v.getLsbD 3, v.getLsbD 2, v.getLsbD 1, v.getLsbD 0⟩) ∧
  (∀ v : Byte, (Flags.ofByte v).toByte = v &&& 0x0F#8)

/-- `PUSH` and `POP` of every pair (41_load16_stack.md R235 to R238). It rests on the spec's own decision D46. -/
def Obligations.PushAndPop : Prop :=
  ∀ s : State,
    (∀ p : StkPair, ∃ t, exec (.mkPush p) s = .next t ∧ t.cpu = { s.cpu with sp := s.cpu.sp - 2#16 }
      ∧ OutsideCpu (afterPush (s.stkPair p) (tick 4 s)) t
      ∧ BytesKeptBut2 (s.cpu.sp - 1#16) (s.cpu.sp - 2#16) s t) ∧
    (∀ (p : StkPair) (w : Word), w = popValue s → ∃ t, exec (.mkPop p) s = .next t ∧ OutsideCpu (afterPop s) t
      ∧ (∀ b, t.mem.read b = s.mem.read b)
      ∧ (p = .bc → t.cpu = { s.cpu with b := hi w, c := lo w, sp := s.cpu.sp + 2#16 })
      ∧ (p = .de → t.cpu = { s.cpu with d := hi w, e := lo w, sp := s.cpu.sp + 2#16 })
      ∧ (p = .hl → t.cpu = { s.cpu with h := hi w, l := lo w, sp := s.cpu.sp + 2#16 })
      ∧ (p = .af → t.cpu = { s.cpu with a := hi w, f := Flags.ofByte (lo w), sp := s.cpu.sp + 2#16 }))

/-- A stack in the core's own memory: after `PUSH`, `POP` of another pair finds the value and SP comes back; the low
byte lies at the lower address (20_memory.md R141). It rests on the spec's own decision D46. -/
def Obligations.PushThenPop : Prop :=
  ∀ (p q : StkPair) (s t u : State), s.StorageOk → s.bootImage.length ≤ 256 →
    bufferAddress (s.cpu.sp - 1#16).toNat = true → bufferAddress (s.cpu.sp - 2#16).toNat = true →
    exec (.mkPush p) s = .next t → exec (.mkPop q) t = .next u →
    t.mem.read (s.cpu.sp - 2#16).toNat = lo (s.stkPair p) ∧ t.mem.read (s.cpu.sp - 1#16).toNat = hi (s.stkPair p) ∧
    u.cpu.sp = s.cpu.sp ∧ (q ≠ .af → u.stkPair q = s.stkPair p) ∧ (q = .af → u.stkPair q = s.stkPair p &&& 0xFF0F#16)

/-- `ADD` and `ADC`, every source (42_alu8.md R251, R255 to R260). -/
def Obligations.AddAndAdc : Prop :=
  ∀ (op : AluOp) (o : AluSource) (s : State) (cin sum : Nat), op = .add ∨ op = .adc →
    cin = (if op = .adc then s.cpu.f.c.toNat else 0) → sum = s.cpu.a.toNat + (o.value s).toNat + cin →
    ∃ t, exec (o.instr op) s = .next t ∧ t.cpu.a.toNat = sum % 256
      ∧ t.cpu.f = { z := decide (sum % 256 = 0)
                    n := false
                    h := decide (s.cpu.a.toNat % 16 + (o.value s).toNat % 16 + cin > 15)
                    c := decide (sum > 255) }
      ∧ (∀ q, q ≠ .a → t.reg q = s.reg q) ∧ SpecialsKept s t ∧ OutsideCpu (o.after s) t
      ∧ ∀ b, t.mem.read b = s.mem.read b

/-- `SUB`, `SBC` and `CP`, every source (42_alu8.md R252, R261 to R266, R276 to R278): `CP` leaves A. -/
def Obligations.SubSbcAndCp : Prop :=
  ∀ (op : AluOp) (o : AluSource) (s : State) (bin diff : Int), op = .sub ∨ op = .sbc ∨ op = .cp →
    bin = (if op = .sbc then (s.cpu.f.c.toNat : Int) else 0) →
    diff = (s.cpu.a.toNat : Int) - (o.value s).toNat - bin →
    ∃ t, exec (o.instr op) s = .next t ∧ (op = .cp → t.cpu.a = s.cpu.a)
      ∧ (op ≠ .cp → (t.cpu.a.toNat : Int) = diff % 256)
      ∧ t.cpu.f = { z := decide (diff % 256 = 0)
                    n := true
                    h := decide (((s.cpu.a.toNat % 16 : Nat) : Int) - ((o.value s).toNat % 16 : Nat) - bin < 0)
                    c := decide (diff < 0) }
      ∧ (∀ q, q ≠ .a → t.reg q = s.reg q) ∧ SpecialsKept s t ∧ OutsideCpu (o.after s) t
      ∧ ∀ b, t.mem.read b = s.mem.read b

/-- `AND`, `XOR` and `OR`, every source (42_alu8.md R267 to R275). -/
def Obligations.AndXorAndOr : Prop :=
  ∀ (op : AluOp) (o : AluSource) (s : State), op = .and ∨ op = .xor ∨ op = .or →
    ∃ t, exec (o.instr op) s = .next t
      ∧ (∀ k, k < 8 → t.cpu.a.getLsbD k =
          (if op = .and then s.cpu.a.getLsbD k && (o.value s).getLsbD k
           else if op = .xor then Bool.xor (s.cpu.a.getLsbD k) ((o.value s).getLsbD k)
           else s.cpu.a.getLsbD k || (o.value s).getLsbD k))
      ∧ t.cpu.f = { z := decide (t.cpu.a = 0#8), n := false, h := decide (op = .and), c := false }
      ∧ (∀ q, q ≠ .a → t.reg q = s.reg q) ∧ SpecialsKept s t ∧ OutsideCpu (o.after s) t
      ∧ ∀ b, t.mem.read b = s.mem.read b

/-- `INC` and `DEC` of a register or of the byte at HL (42_alu8.md R279 to R282): C is kept. -/
def Obligations.IncAndDec : Prop :=
  ∀ (o : Place) (s : State) (v : Nat), v = (o.value s).toNat →
    (∃ t, exec o.inc s = .next t ∧ o.Wrote (BitVec.ofNat 8 (v + 1)) s t
      ∧ t.cpu.f = { s.cpu.f with z := decide (v = 255), n := false, h := decide (v % 16 = 15) }) ∧
    (∃ t, exec o.dec s = .next t ∧ o.Wrote (BitVec.ofNat 8 (v + 255)) s t
      ∧ t.cpu.f = { s.cpu.f with z := decide (v = 1), n := true, h := decide (v % 16 = 0) })

/-- `DAA` (42_alu8.md R283), both branches. -/
def Obligations.DecimalAdjust : Prop :=
  ∀ (s : State) (low high : Nat),
    low = (if s.cpu.f.h = true ∨ (s.cpu.f.n = false ∧ s.cpu.a.toNat % 16 > 9) then 0x06 else 0) →
    high = (if s.cpu.f.c = true ∨ (s.cpu.f.n = false ∧ s.cpu.a.toNat > 0x99) then 0x60 else 0) →
    ∃ t, exec .daa s = .next t
      ∧ t.cpu.a.toNat =
          (if s.cpu.f.n = true then (s.cpu.a.toNat + 256 - low - high) % 256 else (s.cpu.a.toNat + low + high) % 256)
      ∧ t.cpu.f = { z := decide (t.cpu.a = 0#8), n := s.cpu.f.n, h := false, c := decide (high = 0x60) }
      ∧ (∀ q, q ≠ .a → t.reg q = s.reg q) ∧ SpecialsKept s t ∧ OutsideCpu s t

/-- What `DAA` is for: after `ADD` or `SUB` of two packed decimal numbers it leaves their decimal sum or difference
modulo 100, and C says whether it left the range (42_alu8.md R283; 00_scope.md R15, half-carry). -/
def Obligations.DecimalArithmetic : Prop :=
  ∀ (x y : Nat) (s t u : State), x < 100 → y < 100 → s.cpu.a = packedDecimal x → s.cpu.b = packedDecimal y →
    (exec .addAB s = .next t → exec .daa t = .next u →
      u.cpu.a = packedDecimal ((x + y) % 100) ∧ u.cpu.f.c = decide (100 ≤ x + y)) ∧
    (exec .subB s = .next t → exec .daa t = .next u →
      u.cpu.a = packedDecimal ((x + 100 - y) % 100) ∧ u.cpu.f.c = decide (x < y))

/-- `CPL`, `SCF` and `CCF` (42_alu8.md R284 to R286). -/
def Obligations.ComplementAndCarry : Prop :=
  ∀ s : State,
    (∃ t, exec .cpl s = .next t ∧ t.cpu.a.toNat = 255 - s.cpu.a.toNat ∧ (∀ q, q ≠ .a → t.reg q = s.reg q)
      ∧ t.cpu.f = { s.cpu.f with n := true, h := true } ∧ SpecialsKept s t ∧ OutsideCpu s t) ∧
    exec .scf s = .next { s with cpu := { s.cpu with f := ⟨s.cpu.f.z, false, false, true⟩ } } ∧
    exec .ccf s = .next { s with cpu := { s.cpu with f := ⟨s.cpu.f.z, false, false, !s.cpu.f.c⟩ } }

/-- `ADD HL,rr`, `INC rr` and `DEC rr` (43_alu16.md R301 to R303). It rests on the spec's own decision D4. -/
def Obligations.SixteenBitArithmetic : Prop :=
  ∀ (p : Pair) (s : State),
    (∃ t, exec (.mkAddHl p) s = .next t ∧ HlWritten (BitVec.ofNat 16 (s.hl.toNat + (s.pair p).toNat)) s t
      ∧ t.cpu.f = { s.cpu.f with
          n := false
          h := decide (s.hl.toNat % 4096 + (s.pair p).toNat % 4096 > 4095)
          c := decide (s.hl.toNat + (s.pair p).toNat > 65535) }
      ∧ SpecialsKept s t ∧ OutsideCpu (tick 4 s) t) ∧
    (∃ t, exec (.mkIncPair p) s = .next t ∧ PairWritten p (BitVec.ofNat 16 ((s.pair p).toNat + 1)) s t
      ∧ t.cpu.f = s.cpu.f ∧ t.cpu.pc = s.cpu.pc ∧ t.cpu.halted = s.cpu.halted ∧ OutsideCpu (tick 4 s) t) ∧
    (∃ t, exec (.mkDecPair p) s = .next t ∧ PairWritten p (BitVec.ofNat 16 ((s.pair p).toNat + 65535)) s t
      ∧ t.cpu.f = s.cpu.f ∧ t.cpu.pc = s.cpu.pc ∧ t.cpu.halted = s.cpu.halted ∧ OutsideCpu (tick 4 s) t)

/-- The accumulator rotates: Z, N and H are 0 whatever the result (44_rotate_acc.md R310 to R314). It rests on the
spec's own decision D40. -/
def Obligations.AccumulatorRotates : Prop :=
  ∀ (s : State) (i : Instr) (op : RotOp),
    (i = .rlca ∧ op = .rlc) ∨ (i = .rrca ∧ op = .rrc) ∨ (i = .rla ∧ op = .rl) ∨ (i = .rra ∧ op = .rr) →
    ∃ t, exec i s = .next t
      ∧ (∀ k, k < 8 → t.cpu.a.getLsbD k = rotatedBit op s.cpu.a s.cpu.f.c k)
      ∧ t.cpu.f = ⟨false, false, false, rotatedCarry op s.cpu.a⟩
      ∧ (∀ q, q ≠ .a → t.reg q = s.reg q) ∧ SpecialsKept s t ∧ OutsideCpu s t

/-- The extended rotates and shifts of a register or of the byte at HL (46_cb_bitops.md R341 to R357). -/
def Obligations.ExtendedRotates : Prop :=
  ∀ (op : RotOp) (o : Place) (s : State),
    ∃ t w, exec (o.rot op) s = .next t
      ∧ (∀ k, k < 8 → w.getLsbD k = rotatedBit op (o.value s) s.cpu.f.c k) ∧ o.Wrote w s t
      ∧ t.cpu.f = ⟨decide (w = 0#8), false, false, rotatedCarry op (o.value s)⟩

/-- `BIT`, `RES` and `SET` of a register or of the byte at HL (46_cb_bitops.md R358 to R363). -/
def Obligations.BitInstructions : Prop :=
  ∀ (b : Fin 8) (o : Place) (s : State),
    (∃ t, exec (o.bit b) s = .next t ∧ RegsKept s t ∧ SpecialsKept s t ∧ OutsideCpu (o.after s) t
      ∧ (∀ k, t.mem.read k = s.mem.read k)
      ∧ t.cpu.f = { s.cpu.f with z := !(o.value s).getLsbD b.val, n := false, h := true }) ∧
    (∃ t w, exec (o.res b) s = .next t ∧ o.Wrote w s t ∧ t.cpu.f = s.cpu.f
      ∧ ∀ k, k < 8 → w.getLsbD k = (if k = b.val then false else (o.value s).getLsbD k)) ∧
    (∃ t w, exec (o.set b) s = .next t ∧ o.Wrote w s t ∧ t.cpu.f = s.cpu.f
      ∧ ∀ k, k < 8 → w.getLsbD k = (if k = b.val then true else (o.value s).getLsbD k))

/-- The jumps, taken and not taken (45_control.md R321 to R325). It rests on the spec's own decision D4. -/
def Obligations.Jumps : Prop :=
  ∀ (cc : Cond) (a : Word) (e : Byte) (s : State),
    JumpsTo (.jpA16 a) a 4 s ∧ JumpsTo .jpHl s.hl 0 s ∧
    JumpsTo (.jrR8 e) (BitVec.ofInt 16 (s.cpu.pc.toNat + e.toInt)) 4 s ∧
    (s.cpu.f.holds cc = true → JumpsTo (.mkJpCc cc a) a 4 s) ∧
    (s.cpu.f.holds cc = true → JumpsTo (.mkJrCc cc e) (BitVec.ofInt 16 (s.cpu.pc.toNat + e.toInt)) 4 s) ∧
    (s.cpu.f.holds cc = false → exec (.mkJpCc cc a) s = .next s ∧ exec (.mkJrCc cc e) s = .next s) ∧
    (s.cpu.f.holds cc = (match cc with
      | .nz => !s.cpu.f.z | .z => s.cpu.f.z | .nc => !s.cpu.f.c | .c => s.cpu.f.c))

/-- The calls and restarts, taken and not taken (45_control.md R326, R327, R331). -/
def Obligations.Calls : Prop :=
  ∀ (cc : Cond) (a : Word) (y : Fin 8) (s : State),
    CallsTo (.callA16 a) a s ∧ CallsTo (.mkRst y) (BitVec.ofNat 16 (8 * y.val)) s ∧
    (s.cpu.f.holds cc = true → CallsTo (.mkCallCc cc a) a s) ∧
    (s.cpu.f.holds cc = false → exec (.mkCallCc cc a) s = .next s)

/-- The returns, taken and not taken, and the return from an interrupt (45_control.md R328 to R330; 60_exceptions.md
R418). It rests on the spec's own decision D11. -/
def Obligations.Returns : Prop :=
  ∀ (cc : Cond) (s : State),
    ReturnsAfter .ret 0 s ∧
    (s.cpu.f.holds cc = true → ReturnsAfter (.mkRetCc cc) 4 s) ∧
    (s.cpu.f.holds cc = false → exec (.mkRetCc cc) s = .next (tick 4 s)) ∧
    (∃ t u, exec .ret s = .next t ∧ exec .reti s = .next u ∧ u = { t with irq := { t.irq with ime := true } })

/-- `NOP`, `HALT`, `DI`, `EI` (47_system.md R381, R382, R384, R385); and `STOP` and the unassigned bytes, which end
the machine: the reason recorded, nothing else changed (R383, R387). It rests on the spec's own decisions D8, D11,
D12. -/
def Obligations.SystemInstructions : Prop :=
  ∀ s : State, exec .nop s = .next s ∧
    exec .halt s = .next { s with cpu := { s.cpu with halted := true } } ∧
    exec .di s = .next { s with irq := { s.irq with ime := false } } ∧
    exec .ei s = .next { s with irq := { s.irq with ime := true } } ∧
    exec .stop s = .next { s with stopped := some .stopNotModelled } ∧
    ∀ row ∈ unassignedRows,
      exec row.1 s = .next { s with stopped := some (.unknownOpcode row.2 (s.cpu.pc - 1#16)) }

/-- The prefix row acts as the extended instruction of its second byte (47_system.md R386); the row is the model's
own, and the decoder never gives it (log entry 15). -/
def Obligations.PrefixRunsExtended : Prop :=
  ∀ (op2 : Byte) (s : State), ∃ t, exec (.prefixCb op2) s = .next t ∧ exec (decodeExtended op2) s = .next t

/-- No instruction sets the global enable but `EI` and `RETI` (10_state.md R42), none wakes the CPU (60_exceptions.md
R435), none but `STOP` and the unassigned bytes stops the machine (R401), none maps the overlay again (20_memory.md
R133), and none touches what only the picture generator changes (10_state.md R61, R62, R72) nor steps the DMA it does
not start (R73). It rests on the spec's own decisions D11, D28, D31, D35. -/
def Obligations.WhatNoInstructionDoes : Prop :=
  ∀ (i : Instr) (s : State), ∃ t, exec i s = .next t ∧
    (t.irq.ime = true → s.irq.ime = true ∨ i = .ei ∨ i = .reti) ∧
    (s.cpu.halted = true → t.cpu.halted = true) ∧
    (t.stopped ≠ s.stopped → i = .stop ∨ ∃ op, (i, op) ∈ unassignedRows) ∧
    (t.bootActive = true → s.bootActive = true) ∧ t.bootImage = s.bootImage ∧ t.inputs = s.inputs ∧
    t.ppu.ly = s.ppu.ly ∧ t.ppu.mode = s.ppu.mode ∧ t.ppu.lineCycle = s.ppu.lineCycle ∧
    t.ppu.lycMatch = s.ppu.lycMatch ∧ t.ppu.visible = s.ppu.visible ∧ t.ppu.fbDraw = s.ppu.fbDraw ∧
    t.ppu.fbReady = s.ppu.fbReady ∧ t.ppu.frameReady = s.ppu.frameReady ∧ t.ppu.seen = s.ppu.seen ∧
    (t.dma = s.dma ∨ (t.dma.active = true ∧ t.dma.index = 0 ∧ t.dma.budget = 0))

/-- `Dispatch()` in its two branches (60_exceptions.md R414 to R417): nothing while interrupts are off and the CPU
runs, or while no kind is both requested and enabled; else the kind of highest priority, its request and the global
enable cleared and the CPU woken, and with the global enable on PC pushed and the vector entered, 20 cycles in all.
It rests on the spec's own decisions D10, D14, D45. -/
def Obligations.DispatchCases : Prop :=
  ∀ s : State,
    (s.irq.ime = false → s.cpu.halted = false → dispatch s = s) ∧
    (s.irq.requested &&& s.irq.enabled = 0#5 → dispatch s = s) ∧
    (∀ (k : IrqKind) (ack : State),
      (s.irq.requested &&& s.irq.enabled).getLsbD (cfg.irqBit k) = true →
      (∀ j, j < cfg.irqBit k → (s.irq.requested &&& s.irq.enabled).getLsbD j = false) →
      ack = { s with
        irq := { s.irq with requested := s.irq.requested &&& ~~~(1#5 <<< cfg.irqBit k), ime := false }
        cpu := { s.cpu with halted := false } } →
      (s.irq.ime = false → s.cpu.halted = true → dispatch s = ack) ∧
      (s.irq.ime = true →
        (dispatch s).cpu = { s.cpu with
          halted := false
          sp := s.cpu.sp - 2#16
          pc := BitVec.ofNat 16 (0x40 + 8 * cfg.irqBit k) } ∧
        OutsideCpu (tick 4 (afterPush s.cpu.pc (tick 8 ack))) (dispatch s) ∧
        BytesKeptBut2 (s.cpu.sp - 1#16) (s.cpu.sp - 2#16) s (dispatch s)))

/-- `Tick(n)` and the programmable counter (61_devices.md R463, R464): the cycles counted one by one, nothing else of
the state but TIMA and the timer's request; TIMA still while disabled; while enabled and short of overflow, one step
for each multiple of the period passed; at 0xFF, the reload and one request. It rests on the spec's own decisions D7,
D18. -/
def Obligations.TickCounts : Prop :=
  ∀ (n : Nat) (s : State),
    (∃ (v : Byte) (q : BitVec 5),
      tick n s = { s with
        timer := { s.timer with cycles := s.timer.cycles + n, tima := v }
        irq := { s.irq with requested := q } } ∧
      (q = s.irq.requested ∨ q = s.irq.requested ||| 0b00100#5)) ∧
    (s.timer.tac.getLsbD 2 = false →
      tick n s = { s with timer := { s.timer with cycles := s.timer.cycles + n } }) ∧
    (∀ m, s.timer.tac.getLsbD 2 = true →
      m = (s.timer.cycles + n) / timerPeriod s - s.timer.cycles / timerPeriod s → s.timer.tima.toNat + m ≤ 255 →
      tick n s = { s with
        timer := { s.timer with cycles := s.timer.cycles + n, tima := s.timer.tima + BitVec.ofNat 8 m } }) ∧
    (s.timer.tac.getLsbD 2 = true → (s.timer.cycles + 1) % timerPeriod s = 0 → s.timer.tima = 0xFF#8 →
      tick 1 s = { s with
        timer := { s.timer with cycles := s.timer.cycles + 1, tima := s.timer.tma }
        irq := { s.irq with requested := s.irq.requested ||| 0b00100#5 } }) ∧
    timerPeriod s = (if s.timer.tac.toNat % 4 = 0 then 1024 else if s.timer.tac.toNat % 4 = 1 then 16
      else if s.timer.tac.toNat % 4 = 2 then 64 else 256)

/-- The divider (10_state.md R51, R53; 61_devices.md R465, R466): a pure function of the cycle counter; a write of
any value resets its origin and nothing else. The division by 256 and the register's address rest on the spec's own
decisions D18 and D16 (log entry 1). -/
def Obligations.Divider : Prop :=
  ∀ (s : State) (v : Byte) (n : Nat), s.bootImage.length ≤ 256 →
    memPeek 0xFF04#16 s = some (BitVec.ofNat 8 ((s.timer.cycles - s.timer.divOrigin) / 256)) ∧
    memWrite 0xFF04#16 v s = { s with timer := { s.timer with divOrigin := s.timer.cycles } } ∧
    memPeek 0xFF04#16 (tick n (memWrite 0xFF04#16 v s)) = some (BitVec.ofNat 8 (n / 256))

/-- The register views: what a read gives after a write of `v`, and what the write leaves (10_state.md R43, R44, R56,
R61, R64, R73; 20_memory.md R124, R133). It rests on the spec's own decisions D14, D18, D20, D28, D35, D39. -/
def Obligations.RegisterViews : Prop :=
  ∀ (s : State) (v : Byte), s.bootImage.length ≤ 256 →
    memPeek 0xFF0F#16 (memWrite 0xFF0F#16 v s) = some (v ||| 0xE0#8) ∧
    memPeek 0xFFFF#16 (memWrite 0xFFFF#16 v s) = some (v &&& 0x1F#8) ∧
    memPeek 0xFF07#16 (memWrite 0xFF07#16 v s) = some (v ||| 0xF8#8) ∧
    memPeek 0xFF41#16 (memWrite 0xFF41#16 v s) = some (0x80#8 ||| (v &&& 0x78#8) ||| (statByte s.ppu &&& 0x07#8)) ∧
    statByte s.ppu &&& 0x87#8 = 0x80#8 ||| (if s.ppu.lycMatch then 0x04#8 else 0#8) ||| s.ppu.mode.code.setWidth 8 ∧
    memPeek 0xFF44#16 s = some s.ppu.ly ∧ memWrite 0xFF44#16 v s = s ∧
    memPeek 0xFF46#16 (memWrite 0xFF46#16 v s) = some v ∧
    (memWrite 0xFF46#16 v s).dma = ⟨true, BitVec.ofNat 16 (v.toNat * 256), 0, 0, v⟩ ∧
    memPeek 0xFF50#16 s = none ∧
    memWrite 0xFF50#16 v s = (if v = 0#8 then s else { s with bootActive := false })

/-- Plain storage: a read returns the last byte written (20_memory.md R124), in every buffer of the core and in the
eleven registers that are plain storage and TIMA. It rests on the spec's own decisions D16, D39. -/
def Obligations.PlainStorage : Prop :=
  ∀ (s : State) (a : Word) (v : Byte), s.StorageOk → s.bootImage.length ≤ 256 →
    bufferAddress a.toNat = true ∨ a ∈ [0xFF05#16, 0xFF06#16, 0xFF40#16, 0xFF42#16, 0xFF43#16, 0xFF45#16, 0xFF47#16,
      0xFF48#16, 0xFF49#16, 0xFF4A#16, 0xFF4B#16] →
    memPeek a (memWrite a v s) = some v

/-- A write to one address changes what no other address of the core reads as; one to 0xFF50 may expose what the
overlay hid, and what the collaborators answer is theirs (20_memory.md R111, R124, R133, R134). It rests on the
spec's own decision D35. -/
def Obligations.WriteFrame : Prop :=
  ∀ (s : State) (a b : Word) (v : Byte), s.bootImage.length ≤ 256 → b ≠ a → s.readOwner b ≠ some .ext →
    (a = 0xFF50#16 → 0x0100 ≤ b.toNat) → memPeek b (memWrite a v s) = memPeek b s

/-- Reads have no side effect on the core, and unmapped addresses read as nothing and take no write (20_memory.md
R112, R124, R130, R132). It rests on the spec's own decisions D5, D16, D17. -/
def Obligations.ReadsAndUnmapped : Prop :=
  ∀ (s : State) (a : Word) (v : Byte), s.bootImage.length ≤ 256 →
    (∃ x, memReadEffect a s = { s with ext := x }) ∧ (s.readOwner a ≠ some .ext → memReadEffect a s = s) ∧
    ((0xE000 ≤ a.toNat ∧ a.toNat < 0xFE00) ∨ (0xFEA0 ≤ a.toNat ∧ a.toNat < 0xFF00) ∨ a.toNat = 0xFF03 ∨
      (0xFF08 ≤ a.toNat ∧ a.toNat < 0xFF0F) ∨ (0xFF4C ≤ a.toNat ∧ a.toNat < 0xFF50) ∨
      (0xFF51 ≤ a.toNat ∧ a.toNat < 0xFF80) →
        memRead a s = (0xFF#8, s) ∧ memWrite a v s = s)

/-- The boot overlay and the cartridge windows (20_memory.md R111, R130, R133, R134): "a write to ROM with no banking
controller is an unmapped-write", and one with a controller reaches it alone. A ROM-only cartridge has none; an oracle
has one, the model's choice (log entry 4). It rests on the spec's own decisions D16, D33, D35. -/
def Obligations.BootOverlay : Prop :=
  ∀ (s : State) (a : Word) (v : Byte), s.bootImage.length ≤ 256 → a.toNat < 0x8000 →
    (s.bootActive = true → ∀ b, s.bootImage[a.toNat]? = some b → memPeek a s = some b) ∧
    (s.bootActive = false ∨ s.bootImage.length ≤ a.toNat → memPeek a s = s.ext.answer a) ∧
    (∃ x, memWrite a v s = { s with ext := x }) ∧
    (∀ rom, s.ext = .romOnly rom →
      memWrite? a v s = none ∧ memWrite a v s = s ∧ s.ext.answer a = some (rom.read a.toNat)) ∧
    (∀ seen, s.ext = .oracle seen → memWrite? a v s = some { s with ext := .oracle (.write a v :: seen) })

/-- The picture generator's clock: from any legal place, `PpuStep` moves on by the cycles since the last one, modulo
a frame of 70224 cycles, and leaves a legal place (61_devices.md R480 to R483; 70_reset_and_hazards.md R590). It
rests on the spec's own decisions D20, D21. -/
def Obligations.FrameClock : Prop :=
  ∀ (s : State) (total : Nat), s.PhaseOk →
    (ppuStep total s).PhaseOk ∧
    framePosition (ppuStep total s) = (framePosition s + (total - s.ppu.seen)) % 70224 ∧
    (ppuStep total s).ppu.seen = total ∧ (ppuStep total s).cpu = s.cpu ∧ (ppuStep total s).timer = s.timer

/-- "Mode transitions are a deterministic function of (scanline, intra-line cycle offset) only": two machines that
agree on these and on the elapsed cycles agree on them afterwards, whatever else differs (61_devices.md R481;
10_state.md R60). It rests on the spec's own decision D20. -/
def Obligations.PhaseDependsOnPhaseOnly : Prop :=
  ∀ (s t : State) (m n : Nat), s.ppu.ly = t.ppu.ly → s.ppu.mode = t.ppu.mode → s.ppu.lineCycle = t.ppu.lineCycle →
    m - s.ppu.seen = n - t.ppu.seen →
    (ppuStep m s).ppu.ly = (ppuStep n t).ppu.ly ∧ (ppuStep m s).ppu.mode = (ppuStep n t).ppu.mode ∧
    (ppuStep m s).ppu.lineCycle = (ppuStep n t).ppu.lineCycle

/-- The edge into VBlank (61_devices.md R485): the drawn frame made available, the vblank request unconditional, the
lcd-status request by enable bit 4; no other buffer, and no other request. It rests on the spec's own decisions D20,
D27. -/
def Obligations.VblankEntry : Prop :=
  ∀ s : State, s.ppu.mode = .hblank → s.ppu.ly = 143#8 → 456 ≤ s.ppu.lineCycle →
    ∃ t, transition s = some t ∧ t.ppu.ly = 144#8 ∧ t.ppu.mode = .vblank ∧ t.ppu.lineCycle = s.ppu.lineCycle - 456
      ∧ t.ppu.fbReady = s.ppu.fbDraw ∧ t.ppu.fbDraw = s.ppu.fbDraw ∧ t.ppu.frameReady = true
      ∧ t.irq.requested = s.irq.requested ||| 0b00001#5 ||| (if s.ppu.statEn.getLsbD 1 then 0b00010#5 else 0#5)
      ∧ t.cpu = s.cpu ∧ t.mem = s.mem ∧ t.timer = s.timer ∧ t.dma = s.dma

/-- The entries of the other modes and the lcd-status request of each (61_devices.md R480, R483, R484): PixelTransfer
requests nothing; HBlank renders and tests bit 3; SpriteSearch searches for the line just begun and tests bit 5, the
line after a visible one and line 0 after line 153 alike. It rests on the spec's own decisions D20, D21. -/
def Obligations.ModeEntries : Prop :=
  ∀ s : State,
    (s.ppu.mode = .search → 80 ≤ s.ppu.lineCycle →
      transition s = some { s with ppu := { s.ppu with mode := .transfer } }) ∧
    (s.ppu.mode = .transfer → 252 ≤ s.ppu.lineCycle →
      ∃ t, transition s = some t ∧ t.ppu = { (renderLine s).ppu with mode := .hblank }
        ∧ t.irq.requested = s.irq.requested ||| (if s.ppu.statEn.getLsbD 0 then 0b00010#5 else 0#5)
        ∧ t.cpu = s.cpu ∧ t.mem = s.mem) ∧
    (s.ppu.mode = .hblank → 456 ≤ s.ppu.lineCycle → s.ppu.ly.toNat < 143 →
      ∃ t, transition s = some t ∧ t.ppu.mode = .search ∧ t.ppu.ly = s.ppu.ly + 1#8
        ∧ t.ppu.lineCycle = s.ppu.lineCycle - 456
        ∧ t.ppu.visible = (spriteSearch { s with ppu := { s.ppu with ly := s.ppu.ly + 1#8 } }).ppu.visible
        ∧ t.irq.requested = s.irq.requested ||| (if s.ppu.statEn.getLsbD 2 then 0b00010#5 else 0#5)
        ∧ t.ppu.fbDraw = s.ppu.fbDraw ∧ t.ppu.fbReady = s.ppu.fbReady ∧ t.cpu = s.cpu ∧ t.mem = s.mem) ∧
    (s.ppu.mode = .vblank → 456 ≤ s.ppu.lineCycle → s.ppu.ly.toNat < 153 →
      transition s = some { s with
        ppu := { s.ppu with ly := s.ppu.ly + 1#8, lineCycle := s.ppu.lineCycle - 456 } }) ∧
    (s.ppu.mode = .vblank → 456 ≤ s.ppu.lineCycle → s.ppu.ly.toNat = 153 →
      ∃ t, transition s = some t ∧ t.ppu.mode = .search ∧ t.ppu.ly = 0#8
        ∧ t.ppu.lineCycle = s.ppu.lineCycle - 456
        ∧ t.ppu.visible = (spriteSearch { s with ppu := { s.ppu with ly := 0#8 } }).ppu.visible
        ∧ t.irq.requested = s.irq.requested ||| (if s.ppu.statEn.getLsbD 2 then 0b00010#5 else 0#5)
        ∧ t.ppu.fbDraw = s.ppu.fbDraw ∧ t.ppu.fbReady = s.ppu.fbReady ∧ t.ppu.frameReady = s.ppu.frameReady
        ∧ t.cpu = s.cpu ∧ t.mem = s.mem)

/-- "The framebuffer is mutated only at the hblank-entry and is swapped to 'available' only once per full frame
(entry into vblank from hblank)" (10_state.md R60): of all transitions, only these two touch the buffers. It rests on
the spec's own decision D27. -/
def Obligations.FramebufferDiscipline : Prop :=
  ∀ s t : State, transition s = some t →
    (t.ppu.fbDraw ≠ s.ppu.fbDraw → s.ppu.mode = .transfer ∧ t.ppu.mode = .hblank) ∧
    (t.ppu.fbReady ≠ s.ppu.fbReady ∨ t.ppu.frameReady ≠ s.ppu.frameReady →
      s.ppu.mode = .hblank ∧ t.ppu.mode = .vblank ∧ t.ppu.ly = 144#8)

/-- `PpuStep` from end to end (61_devices.md R480, R483, R487; 70_reset_and_hazards.md R580): the DMA, then the state
machine, then the line compare. With no threshold crossed nothing is drawn, searched, swapped or requested but by the
line compare; with one crossed the transition is made, its entry actions with it, and what remains is `PpuStep` again
with no cycles left; and from a legal place 80 cycles cross at most one. At the end of every `PpuStep` the match flag
says whether the line is LYC, and the lcd-status request is renewed while it is and enable bit 6 is set. It rests on the
spec's own decisions D20, D21, D28. -/
def Obligations.LineCompareEachStep : Prop :=
  ∀ (s : State) (total : Nat),
    ((ppuStep total s).ppu.lycMatch = decide ((ppuStep total s).ppu.ly = s.ppu.lyc)) ∧
    ((ppuStep total s).ppu.lycMatch = true → s.ppu.statEn.getLsbD 3 = true →
      (ppuStep total s).irq.requested.getLsbD 1 = true) ∧
    (∀ u : State, u = afterElapsed total s →
      (transition u = none ↔ u.ppu.lineCycle < modeEnd u.ppu.mode) ∧
      (transition u = none → ppuStep total s = lineCompared u) ∧
      (∀ t, transition u = some t → ppuStep total s = ppuStep total t) ∧
      (∀ t, s.PhaseOk → total - s.ppu.seen ≤ 80 → transition u = some t → ppuStep total s = lineCompared t)) ∧
    (s.PhaseOk → s.ppu.lineCycle + (total - s.ppu.seen) < modeEnd s.ppu.mode →
      (ppuStep total s).ppu = { s.ppu with
        seen := total
        lineCycle := s.ppu.lineCycle + (total - s.ppu.seen)
        lycMatch := decide (s.ppu.ly = s.ppu.lyc) } ∧
      (ppuStep total s).irq = { s.irq with
        requested := s.irq.requested |||
          (if s.ppu.ly = s.ppu.lyc ∧ s.ppu.statEn.getLsbD 3 = true then 0b00010#5 else 0#5) })

/-- `RenderLine()` writes the 160 pixels of line LY, each by the rule of one pixel, and no other pixel (61_devices.md
R492); the background index of a column: 0 with the layer off, else the pixel at its place in the window where the
window applies (R494), in the scrolled 256 x 256 background elsewhere (R493); and the pixel of a tile, the second byte of
its row holding the high bit (R495). It rests on the spec's own decisions D25, D26, D27, D47. -/
def Obligations.RenderWritesOneLine : Prop :=
  ∀ s : State,
    (Sparse.wf s.ppu.fbDraw = true → s.ppu.ly.toNat < 144 →
      (∀ x, x < 160 → (renderLine s).ppu.fbDraw.get (s.ppu.ly.toNat * 160 + x) = pixelShade s x) ∧
      (∀ k, k < s.ppu.ly.toNat * 160 ∨ s.ppu.ly.toNat * 160 + 160 ≤ k →
        (renderLine s).ppu.fbDraw.get k = s.ppu.fbDraw.get k) ∧
      (renderLine s).mem = s.mem ∧ (renderLine s).irq = s.irq ∧ (renderLine s).cpu = s.cpu) ∧
    (∀ (x px py map : Nat) (tile : Byte) (window : Bool),
      (s.ppu.lcdc.getLsbD 0 = false → bgWindowIndex s x = 0#2) ∧
      (s.ppu.lcdc.getLsbD 0 = true →
        window = (s.ppu.lcdc.getLsbD 5 && decide (s.ppu.wy.toNat ≤ s.ppu.ly.toNat) &&
          decide (s.ppu.wx.toNat ≤ x + 7)) →
        px = (if window then x + 7 - s.ppu.wx.toNat else (x + s.ppu.scx.toNat) % 256) →
        py = (if window then s.ppu.ly.toNat - s.ppu.wy.toNat else (s.ppu.ly.toNat + s.ppu.scy.toNat) % 256) →
        map = (if s.ppu.lcdc.getLsbD (if window then 6 else 3) then 0x9C00 else 0x9800) →
        tile = s.mem.read (map + py / 8 * 32 + px / 8) →
        bgWindowIndex s x = tilePixel s (s.ppu.lcdc.getLsbD 4) tile (py % 8) (px % 8))) ∧
    (∀ (unsignedMode : Bool) (tile : Byte) (row col base : Nat), row < 8 → col < 8 →
      base = (if unsignedMode = true ∨ 128 ≤ tile.toNat then 0x8000 + tile.toNat * 16 else 0x9000 + tile.toNat * 16) →
      (tilePixel s unsignedMode tile row col).toNat =
        2 * ((s.mem.read (base + 2 * row + 1)).getLsbD (7 - col)).toNat +
          ((s.mem.read (base + 2 * row)).getLsbD (7 - col)).toNat)

/-- The sprite search (61_devices.md R490): the first ten entries in table order that cover the line, all of them if
they are fewer, in ascending order of x and then of table index. It rests on the spec's own decisions D23, D42. -/
def Obligations.SpriteSearchOrder : Prop :=
  ∀ s : State,
    (spriteSearch s).ppu.visible.Pairwise (fun i j =>
      (s.oam (4 * i + 1)).toNat < (s.oam (4 * j + 1)).toNat ∨
        ((s.oam (4 * i + 1)).toNat = (s.oam (4 * j + 1)).toNat ∧ i < j)) ∧
    (spriteSearch s).ppu.visible.Perm (((List.range 40).filter (fun i =>
      decide ((s.oam (4 * i)).toNat ≤ s.ppu.ly.toNat + 16) &&
        decide (s.ppu.ly.toNat + 16 < (s.oam (4 * i)).toNat + (if s.ppu.lcdc.getLsbD 2 then 16 else 8)))).take 10)

/-- The pixel of a column (61_devices.md R492, R496, R497): the first sprite of the order whose pixel is neither
transparent nor hidden behind a non-zero background; else the background through BGP. Which pixel a sprite has there:
none outside its 8 columns and its 8 or 16 lines, else that of its tile at the row and column its flips leave, the pair
of tiles of a 16-line sprite taken by the row; and the entry of a palette. It rests on the spec's own decisions D24, D26,
D27, D42, D47. -/
def Obligations.PixelPriority : Prop :=
  ∀ (s : State) (x : Nat) (before after : List Nat) (i : Nat) (ci : BitVec 2),
    (s.ppu.lcdc.getLsbD 1 = true → s.ppu.visible = before ++ i :: after →
      (∀ j ∈ before, ∀ cj, spriteIndexAt s x j = some cj →
        cj = 0#2 ∨ ((s.oam (4 * j + 3)).getLsbD 7 = true ∧ bgWindowIndex s x ≠ 0#2)) →
      spriteIndexAt s x i = some ci → ci ≠ 0#2 →
      (s.oam (4 * i + 3)).getLsbD 7 = false ∨ bgWindowIndex s x = 0#2 →
      pixelShade s x = shadeOf (if (s.oam (4 * i + 3)).getLsbD 4 then s.ppu.obp1 else s.ppu.obp0) ci) ∧
    (s.ppu.lcdc.getLsbD 1 = false ∨ (∀ j ∈ s.ppu.visible, ∀ cj, spriteIndexAt s x j = some cj →
        cj = 0#2 ∨ ((s.oam (4 * j + 3)).getLsbD 7 = true ∧ bgWindowIndex s x ≠ 0#2)) →
      pixelShade s x = shadeOf s.ppu.bgp (bgWindowIndex s x)) ∧
    (∀ (sy sx tile flags : Byte) (h r c : Nat) (row col : Int),
      sy = s.mem.read (0xFE00 + 4 * i) → sx = s.mem.read (0xFE01 + 4 * i) →
      tile = s.mem.read (0xFE02 + 4 * i) → flags = s.mem.read (0xFE03 + 4 * i) →
      h = (if s.ppu.lcdc.getLsbD 2 then 16 else 8) →
      col = (x : Int) - ((sx.toNat : Int) - 8) → row = (s.ppu.ly.toNat : Int) - ((sy.toNat : Int) - 16) →
      r = (if flags.getLsbD 6 then h - 1 - row.toNat else row.toNat) →
      c = (if flags.getLsbD 5 then 7 - col.toNat else col.toNat) →
      spriteIndexAt s x i =
        (if col < 0 ∨ 7 < col ∨ row < 0 ∨ (h : Int) ≤ row then none
         else if h = 16 then some (tilePixel s true (BitVec.ofNat 8 (tile.toNat / 2 * 2 + r / 8)) (r % 8) c)
         else some (tilePixel s true tile r c))) ∧
    (∀ palette : Byte, (shadeOf palette ci).toNat = palette.toNat / 4 ^ ci.toNat % 4)

/-- The sprite-table DMA (61_devices.md R500 to R502; 70_reset_and_hazards.md R580). From any index of a transfer and for
any number of cycles: one byte for each 4 cycles until the 160th; the bytes copied are those the bus answers at their
place in the page, and no other byte of the core's memory changes. One byte at a time, from any page: the value the bus
answers or open bus, the collaborators having seen the read. The cycles may come in one call or in several; an engine at
rest does nothing; and `PpuStep` advances the engine by the cycles since its last call. That a source is the start of a
page and that less than 4 cycles are saved up is the invariant `DmaOk`. It rests on the spec's own decisions D5, D28,
D29. -/
def Obligations.DmaCopiesThePage : Prop :=
  (∀ (s : State) (delta : Nat), s.dma.active = true → s.dma.index < 160 →
    (dmaAdvance delta s).dma.index = min 160 (s.dma.index + (s.dma.budget + delta) / 4) ∧
    ((dmaAdvance delta s).dma.active = false ↔ 160 ≤ s.dma.index + (s.dma.budget + delta) / 4)) ∧
  (∀ (s : State) (delta n : Nat), s.mem.wf = true → s.bootImage.length ≤ 256 → s.DmaOk → s.dma.active = true →
    n = min 160 (s.dma.index + (s.dma.budget + delta) / 4) →
    (∀ i, s.dma.index ≤ i → i < n →
      s.readOwner (s.dma.src + BitVec.ofNat 16 i) ≠ some .ext ∨ ∃ rom, s.ext = .romOnly rom) →
    (∀ i, s.dma.index ≤ i → i < n →
      (dmaAdvance delta s).mem.read (0xFE00 + i) = (memPeek (s.dma.src + BitVec.ofNat 16 i) s).getD 0xFF#8) ∧
    (∀ k, k < 0xFE00 + s.dma.index ∨ 0xFE00 + n ≤ k → (dmaAdvance delta s).mem.read k = s.mem.read k) ∧
    (dmaAdvance delta s).cpu = s.cpu ∧ (dmaAdvance delta s).timer = s.timer ∧ (dmaAdvance delta s).irq = s.irq ∧
    (dmaAdvance delta s).ppu = s.ppu) ∧
  (∀ (s : State) (delta : Nat) (a : Word), s.dma.active = true → s.dma.index < 160 →
    a = s.dma.src + BitVec.ofNat 16 s.dma.index →
    (s.dma.budget + delta < 4 →
      dmaAdvance delta s = { s with dma := { s.dma with budget := s.dma.budget + delta } }) ∧
    (4 ≤ s.dma.budget + delta → s.dma.budget + delta < 8 →
      dmaAdvance delta s = { memReadEffect a s with
        mem := s.mem.write (0xFE00 + s.dma.index) ((memPeek a s).getD 0xFF#8)
        dma := { s.dma with
          index := s.dma.index + 1
          active := decide (s.dma.index + 1 < 160)
          budget := if s.dma.index + 1 < 160 then s.dma.budget + delta - 4 else 0 } })) ∧
  (∀ (s : State) (m n : Nat), dmaAdvance (m + n) s = dmaAdvance n (dmaAdvance m s)) ∧
  (∀ (s : State) (delta : Nat), s.dma.active = false → dmaAdvance delta s = s) ∧
  (∀ (s : State) (total : Nat),
    (ppuStep total s).dma = (dmaAdvance (total - s.ppu.seen) s).dma ∧
    (ppuStep total s).mem = (dmaAdvance (total - s.ppu.seen) s).mem ∧
    (ppuStep total s).ext = (dmaAdvance (total - s.ppu.seen) s).ext)

/-- The region contract (20_memory.md R100 to R106). The platform's table keeps it (R101, R130, decision D16; that the
overlay and the bank-0 window stand side by side in it is log entry 12). A region added must lie in the address space,
R100's bound, which the model takes as a premise of `map` (log entry 18): a conflicting `map` fails, a fitting one adds
the region (R103). An `unmap` of nothing fails; else it removes the region that starts there, of two the one in the read
space (R104, decision D15). A `remap` fails without a region of the same start, capability and length, and else replaces
that one alone (R105). Mapping and unmapping gives the table back (R106). -/
def Obligations.RegionContract : Prop :=
  (∀ (b : Bool) (n : Nat) (c : Bool), n ≤ 256 → (platformMap b n c).ok = true) ∧
  (∀ (t : RegionTable Backing) (r : Region Backing), t.ok = true → r.valid = true →
    ((∃ q ∈ t, r.conflicts q = true) → t.map r = .error .mapConflict) ∧
    (t.isRegionMapped r.start = false → t.unmap r.start = .error .notMapped) ∧
    ((∀ q ∈ t, r.conflicts q = false) → ∃ u, t.map r = .ok u ∧ u.ok = true ∧ u.isRegionMapped r.start = true ∧
      (t.isRegionMapped r.start = false → u.unmap r.start = .ok t)) ∧
    ((∀ q ∈ t, ¬ (q.start = r.start ∧ q.cap = r.cap ∧ q.length = r.length)) → t.remap r = .error .notMapped)) ∧
  (∀ (t before after : RegionTable Backing) (q : Region Backing), t.ok = true → t = before ++ q :: after →
    ((∀ p ∈ before ++ after, p.start = q.start → p.cap = .writeOnly) →
      t.unmap q.start = .ok (before ++ after) ∧ RegionTable.ok (before ++ after) = true) ∧
    (∀ r : Region Backing, r.start = q.start → r.cap = q.cap → r.length = q.length →
      t.remap r = .ok (before ++ r :: after) ∧ RegionTable.ok (before ++ r :: after) = true)) ∧
  (∀ (t : RegionTable Backing) (a : Nat), t.isRegionMapped a = true ↔ ∃ q ∈ t, q.start = a)

end
end

