-- ==== Sys2Proof/Laws/Region.lean ====
section
/-! SUPPORT. The laws of a table that keeps the region contract: at most one region of a space contains an address
(20_memory.md R101, R102), and which one the platform's table gives. -/

namespace Sys2Proof.Machine

/-- Two regions that cover one address intersect. -/
theorem Region.intersects_of_covers {β : Type} {r q : Region β} {a : Nat} (hr : r.covers a = true)
    (hq : q.covers a = true) : r.intersects q = true := by
  simp only [Region.covers, Region.intersects, Bool.and_eq_true, decide_eq_true_eq] at *
  omega

/-- A conflict is mutual. -/
theorem Region.conflicts_comm {β : Type} (r q : Region β) : r.conflicts q = q.conflicts r := by
  unfold Region.conflicts Region.intersects
  rw [Bool.and_comm (decide (r.start < _)), Bool.and_comm r.readable, Bool.and_comm r.writable]

/-- A table with a region in it keeps the contract exactly when the region lies in the address space and conflicts with
none of the others, and the others keep it (R100, R101). -/
theorem RegionTable.ok_insert {β : Type} (before after : RegionTable β) (q : Region β) :
    RegionTable.ok (before ++ q :: after) = true ↔
      q.valid = true ∧ (∀ p ∈ before ++ after, q.conflicts p = false) ∧ RegionTable.ok (before ++ after) = true := by
  induction before with
  | nil =>
    simp only [List.nil_append, RegionTable.ok, Bool.and_eq_true, List.all_eq_true, Bool.not_eq_true', and_assoc]
  | cons x before ih =>
    simp only [List.cons_append, RegionTable.ok, Bool.and_eq_true, List.all_eq_true, Bool.not_eq_true', List.mem_append,
      List.mem_cons, ih]
    have hx := Region.conflicts_comm q x
    constructor
    · rintro ⟨⟨h1, h2⟩, h3, h4, h5⟩
      refine ⟨h3, ?_, ⟨h1, fun p hp => h2 p (hp.imp_right .inr)⟩, h5⟩
      rintro p (rfl | hp)
      · rw [hx]; exact h2 q (.inr (.inl rfl))
      · exact h4 p hp
    · rintro ⟨h3, h4, ⟨h1, h2⟩, h5⟩
      refine ⟨⟨h1, ?_⟩, h3, fun p hp => h4 p (.inr hp), h5⟩
      rintro p (hp | rfl | hp)
      · exact h2 p (.inl hp)
      · rw [← hx]; exact h4 x (.inl rfl)
      · exact h2 p (.inr hp)

/-- In a space no two regions of which conflict, the lookup finds a region exactly when it is there and covers. -/
theorem RegionTable.find_iff {β : Type} (t : RegionTable β) (space : Region β → Bool)
    (hs : ∀ r q : Region β, space r = true → space q = true → r.intersects q = true → r.conflicts q = true)
    (a : Nat) (r : Region β) (h : t.ok = true) :
    (t.find? fun x => space x && x.covers a) = some r ↔ r ∈ t ∧ space r = true ∧ r.covers a = true := by
  induction t with
  | nil => simp
  | cons q t ih =>
    simp only [RegionTable.ok, Bool.and_eq_true, List.all_eq_true, Bool.not_eq_true'] at h
    obtain ⟨⟨_, hc⟩, ht⟩ := h
    rw [List.find?_cons]
    cases hq : (space q && q.covers a) with
    | true =>
      rw [Bool.and_eq_true] at hq
      constructor
      · intro e
        cases e
        exact ⟨List.mem_cons_self, hq⟩
      · rintro ⟨hm, hr, hv⟩
        rcases List.mem_cons.mp hm with rfl | hm
        · rfl
        · have h1 := hs q r hq.1 hr (Region.intersects_of_covers hq.2 hv)
          rw [hc r hm] at h1
          cases h1
    | false =>
      dsimp only
      rw [ih ht]
      constructor
      · rintro ⟨hm, hr⟩
        exact ⟨List.mem_cons_of_mem _ hm, hr⟩
      · rintro ⟨hm, hr, hv⟩
        rcases List.mem_cons.mp hm with rfl | hm
        · simp [hr, hv] at hq
        · exact ⟨hm, hr, hv⟩

/-- The read lookup (R110). -/
theorem RegionTable.readAt_iff {β : Type} (t : RegionTable β) (a : Nat) (r : Region β) (h : t.ok = true) :
    t.readAt a = some r ↔ r ∈ t ∧ r.readable = true ∧ r.covers a = true :=
  t.find_iff Region.readable (fun x y hx hy hi => by simp [Region.conflicts, hx, hy, hi]) a r h

/-- The write lookup (R111). -/
theorem RegionTable.writeAt_iff {β : Type} (t : RegionTable β) (a : Nat) (r : Region β) (h : t.ok = true) :
    t.writeAt a = some r ↔ r ∈ t ∧ r.writable = true ∧ r.covers a = true :=
  t.find_iff Region.writable (fun x y hx hy hi => by simp [Region.conflicts, hx, hy, hi]) a r h

/-- The bank-0 window with R130's numbers. -/
theorem lowRegions_eq (b : Bool) (n : Nat) : lowRegions b n =
    if b && decide (0 < n) then [⟨0, n, .readOnly, .boot⟩, ⟨n, 0x4000 - n, .readOnly, .ext⟩]
    else [⟨0, 0x4000, .readOnly, .ext⟩] := by
  simp [lowRegions, spanRegion, cfg]

/-- The banking control with R130's numbers. -/
theorem controlRegions_eq (c : Bool) :
    controlRegions c = if c then [⟨0x0000, 0x8000, .writeOnly, .ext⟩] else [] := rfl

/-- The memories and external windows with R130's numbers. -/
theorem wideRegions_eq : wideRegions =
    [⟨0x4000, 0x4000, .readOnly, .ext⟩, ⟨0x8000, 0x2000, .readWrite, .buffer⟩, ⟨0xA000, 0x2000, .readWrite, .ext⟩,
     ⟨0xC000, 0x2000, .readWrite, .buffer⟩, ⟨0xFE00, 0x00A0, .readWrite, .buffer⟩,
     ⟨0xFF80, 0x007F, .readWrite, .buffer⟩, ⟨0xFF00, 1, .readWrite, .ext⟩, ⟨0xFF01, 2, .readWrite, .ext⟩,
     ⟨0xFF10, 0x30, .readWrite, .ext⟩] := rfl

/-- The registers with R131's numbers. -/
theorem registerRegions_eq : registerRegions =
    [⟨0xFF04, 1, .readWrite, .io .div⟩, ⟨0xFF05, 1, .readWrite, .io .tima⟩, ⟨0xFF06, 1, .readWrite, .io .tma⟩,
     ⟨0xFF07, 1, .readWrite, .io .tac⟩, ⟨0xFF0F, 1, .readWrite, .io .irqFlags⟩, ⟨0xFF40, 1, .readWrite, .io .lcdc⟩,
     ⟨0xFF41, 1, .readWrite, .io .stat⟩, ⟨0xFF42, 1, .readWrite, .io .scy⟩, ⟨0xFF43, 1, .readWrite, .io .scx⟩,
     ⟨0xFF44, 1, .readOnly, .io .ly⟩, ⟨0xFF45, 1, .readWrite, .io .lyc⟩, ⟨0xFF46, 1, .readWrite, .io .dma⟩,
     ⟨0xFF47, 1, .readWrite, .io .bgp⟩, ⟨0xFF48, 1, .readWrite, .io .obp0⟩, ⟨0xFF49, 1, .readWrite, .io .obp1⟩,
     ⟨0xFF4A, 1, .readWrite, .io .wy⟩, ⟨0xFF4B, 1, .readWrite, .io .wx⟩, ⟨0xFF50, 1, .writeOnly, .io .bootOff⟩,
     ⟨0xFFFF, 1, .readWrite, .io .irqEnable⟩] := rfl

/-- The platform's table keeps the contract, with and without the overlay and the controller (R101, R130, R133). -/
theorem platformMap_ok (b : Bool) (n : Nat) (c : Bool) (h : n ≤ 256) : (platformMap b n c).ok = true := by
  unfold platformMap
  rw [lowRegions_eq, controlRegions_eq, wideRegions_eq, registerRegions_eq]
  split
  · rename_i hb
    have h0 : 0 < n := by
      simp only [Bool.and_eq_true, decide_eq_true_eq] at hb
      exact hb.2
    cases c <;>
      simp only [Bool.false_eq_true, if_false, if_true, List.cons_append, List.nil_append, RegionTable.ok, Region.valid,
        Region.conflicts, Region.intersects, Region.readable, Region.writable, List.all_cons, List.all_nil] <;>
      simp <;> omega
  · cases c <;> decide

/-- What answers a read: the backing of a readable region that covers the address, whatever the controller. -/
theorem readOwner_iff (b : Bool) (n : Nat) (a : Word) (x : Backing) (h : n ≤ 256) :
    readOwner b n a = some x ↔
      ∃ r ∈ platformMap b n false, r.readable = true ∧ r.covers a.toNat = true ∧ r.backing = x := by
  simp only [readOwner, Option.map_eq_some_iff, RegionTable.readAt_iff _ _ _ (platformMap_ok b n false h)]
  constructor
  · rintro ⟨r, ⟨h1, h2, h3⟩, h4⟩
    exact ⟨r, h1, h2, h3, h4⟩
  · rintro ⟨r, h1, h2, h3, h4⟩
    exact ⟨r, ⟨h1, h2, h3⟩, h4⟩

/-- What takes a write: the backing of a writable region that covers the address, whatever the overlay. -/
theorem writeOwner_iff (c : Bool) (a : Word) (x : Backing) :
    writeOwner c a = some x ↔
      ∃ r ∈ platformMap false 0 c, r.writable = true ∧ r.covers a.toNat = true ∧ r.backing = x := by
  simp only [writeOwner, Option.map_eq_some_iff,
    RegionTable.writeAt_iff _ _ _ (platformMap_ok false 0 c (Nat.zero_le _))]
  constructor
  · rintro ⟨r, ⟨h1, h2, h3⟩, h4⟩
    exact ⟨r, h1, h2, h3, h4⟩
  · rintro ⟨r, h1, h2, h3, h4⟩
    exact ⟨r, ⟨h1, h2, h3⟩, h4⟩

/-- The read space of the whole table is the one `readOwner` looks in: the controller has no part in it (R101). -/
theorem readOwner_of_table (b : Bool) (n : Nat) (c : Bool) (a : Word) :
    ((platformMap b n c).readAt a.toNat).map Region.backing = readOwner b n a := by
  cases c with
  | false => rfl
  | true =>
    simp only [readOwner, platformMap, controlRegions_eq, RegionTable.readAt, List.find?_append]
    rfl

/-- The write space of the whole table is the one `writeOwner` looks in: the overlay has no part in it (R101). -/
theorem writeOwner_of_table (b : Bool) (n : Nat) (c : Bool) (a : Word) :
    ((platformMap b n c).writeAt a.toNat).map Region.backing = writeOwner c a := by
  simp only [writeOwner, platformMap, lowRegions_eq, RegionTable.writeAt, List.find?_append]
  split <;> rfl

end Sys2Proof.Machine
end

