-- ==== Sys2Proof/Laws/State.lean ====
section
/-! SUPPORT. One lemma per field per update of State, true by rfl, so that no proof unfolds a record update. -/

namespace Sys2Proof.Machine

section

variable (s : State) (q : Reg8) (v : Byte) (w : Word) (f : Flags) (k : IrqKind)

@[simp] theorem State.setHl_irq : (s.setHl w).irq = s.irq := rfl
@[simp] theorem State.setHl_timer : (s.setHl w).timer = s.timer := rfl
@[simp] theorem State.setHl_ppu : (s.setHl w).ppu = s.ppu := rfl
@[simp] theorem State.setHl_dma : (s.setHl w).dma = s.dma := rfl
@[simp] theorem State.setHl_mem : (s.setHl w).mem = s.mem := rfl
@[simp] theorem State.setHl_bootActive : (s.setHl w).bootActive = s.bootActive := rfl
@[simp] theorem State.setHl_stopped : (s.setHl w).stopped = s.stopped := rfl
@[simp] theorem State.setHl_bootImage : (s.setHl w).bootImage = s.bootImage := rfl
@[simp] theorem State.setHl_ext : (s.setHl w).ext = s.ext := rfl
@[simp] theorem State.setHl_inputs : (s.setHl w).inputs = s.inputs := rfl
@[simp] theorem State.setHl_cpu_a : (s.setHl w).cpu.a = s.cpu.a := rfl
@[simp] theorem State.setHl_cpu_b : (s.setHl w).cpu.b = s.cpu.b := rfl
@[simp] theorem State.setHl_cpu_c : (s.setHl w).cpu.c = s.cpu.c := rfl
@[simp] theorem State.setHl_cpu_d : (s.setHl w).cpu.d = s.cpu.d := rfl
@[simp] theorem State.setHl_cpu_e : (s.setHl w).cpu.e = s.cpu.e := rfl
@[simp] theorem State.setHl_cpu_h : (s.setHl w).cpu.h = hi w := rfl
@[simp] theorem State.setHl_cpu_l : (s.setHl w).cpu.l = lo w := rfl
@[simp] theorem State.setHl_cpu_f : (s.setHl w).cpu.f = s.cpu.f := rfl
@[simp] theorem State.setHl_cpu_sp : (s.setHl w).cpu.sp = s.cpu.sp := rfl
@[simp] theorem State.setHl_cpu_pc : (s.setHl w).cpu.pc = s.cpu.pc := rfl
@[simp] theorem State.setHl_cpu_halted : (s.setHl w).cpu.halted = s.cpu.halted := rfl

@[simp] theorem State.setSp_irq : (s.setSp w).irq = s.irq := rfl
@[simp] theorem State.setSp_timer : (s.setSp w).timer = s.timer := rfl
@[simp] theorem State.setSp_ppu : (s.setSp w).ppu = s.ppu := rfl
@[simp] theorem State.setSp_dma : (s.setSp w).dma = s.dma := rfl
@[simp] theorem State.setSp_mem : (s.setSp w).mem = s.mem := rfl
@[simp] theorem State.setSp_bootActive : (s.setSp w).bootActive = s.bootActive := rfl
@[simp] theorem State.setSp_stopped : (s.setSp w).stopped = s.stopped := rfl
@[simp] theorem State.setSp_bootImage : (s.setSp w).bootImage = s.bootImage := rfl
@[simp] theorem State.setSp_ext : (s.setSp w).ext = s.ext := rfl
@[simp] theorem State.setSp_inputs : (s.setSp w).inputs = s.inputs := rfl
@[simp] theorem State.setSp_cpu_a : (s.setSp w).cpu.a = s.cpu.a := rfl
@[simp] theorem State.setSp_cpu_b : (s.setSp w).cpu.b = s.cpu.b := rfl
@[simp] theorem State.setSp_cpu_c : (s.setSp w).cpu.c = s.cpu.c := rfl
@[simp] theorem State.setSp_cpu_d : (s.setSp w).cpu.d = s.cpu.d := rfl
@[simp] theorem State.setSp_cpu_e : (s.setSp w).cpu.e = s.cpu.e := rfl
@[simp] theorem State.setSp_cpu_h : (s.setSp w).cpu.h = s.cpu.h := rfl
@[simp] theorem State.setSp_cpu_l : (s.setSp w).cpu.l = s.cpu.l := rfl
@[simp] theorem State.setSp_cpu_f : (s.setSp w).cpu.f = s.cpu.f := rfl
@[simp] theorem State.setSp_cpu_sp : (s.setSp w).cpu.sp = w := rfl
@[simp] theorem State.setSp_cpu_pc : (s.setSp w).cpu.pc = s.cpu.pc := rfl
@[simp] theorem State.setSp_cpu_halted : (s.setSp w).cpu.halted = s.cpu.halted := rfl

@[simp] theorem State.setPc_irq : (s.setPc w).irq = s.irq := rfl
@[simp] theorem State.setPc_timer : (s.setPc w).timer = s.timer := rfl
@[simp] theorem State.setPc_ppu : (s.setPc w).ppu = s.ppu := rfl
@[simp] theorem State.setPc_dma : (s.setPc w).dma = s.dma := rfl
@[simp] theorem State.setPc_mem : (s.setPc w).mem = s.mem := rfl
@[simp] theorem State.setPc_bootActive : (s.setPc w).bootActive = s.bootActive := rfl
@[simp] theorem State.setPc_stopped : (s.setPc w).stopped = s.stopped := rfl
@[simp] theorem State.setPc_bootImage : (s.setPc w).bootImage = s.bootImage := rfl
@[simp] theorem State.setPc_ext : (s.setPc w).ext = s.ext := rfl
@[simp] theorem State.setPc_inputs : (s.setPc w).inputs = s.inputs := rfl
@[simp] theorem State.setPc_cpu_a : (s.setPc w).cpu.a = s.cpu.a := rfl
@[simp] theorem State.setPc_cpu_b : (s.setPc w).cpu.b = s.cpu.b := rfl
@[simp] theorem State.setPc_cpu_c : (s.setPc w).cpu.c = s.cpu.c := rfl
@[simp] theorem State.setPc_cpu_d : (s.setPc w).cpu.d = s.cpu.d := rfl
@[simp] theorem State.setPc_cpu_e : (s.setPc w).cpu.e = s.cpu.e := rfl
@[simp] theorem State.setPc_cpu_h : (s.setPc w).cpu.h = s.cpu.h := rfl
@[simp] theorem State.setPc_cpu_l : (s.setPc w).cpu.l = s.cpu.l := rfl
@[simp] theorem State.setPc_cpu_f : (s.setPc w).cpu.f = s.cpu.f := rfl
@[simp] theorem State.setPc_cpu_sp : (s.setPc w).cpu.sp = s.cpu.sp := rfl
@[simp] theorem State.setPc_cpu_pc : (s.setPc w).cpu.pc = w := rfl
@[simp] theorem State.setPc_cpu_halted : (s.setPc w).cpu.halted = s.cpu.halted := rfl

@[simp] theorem State.setFlags_irq : (s.setFlags f).irq = s.irq := rfl
@[simp] theorem State.setFlags_timer : (s.setFlags f).timer = s.timer := rfl
@[simp] theorem State.setFlags_ppu : (s.setFlags f).ppu = s.ppu := rfl
@[simp] theorem State.setFlags_dma : (s.setFlags f).dma = s.dma := rfl
@[simp] theorem State.setFlags_mem : (s.setFlags f).mem = s.mem := rfl
@[simp] theorem State.setFlags_bootActive : (s.setFlags f).bootActive = s.bootActive := rfl
@[simp] theorem State.setFlags_stopped : (s.setFlags f).stopped = s.stopped := rfl
@[simp] theorem State.setFlags_bootImage : (s.setFlags f).bootImage = s.bootImage := rfl
@[simp] theorem State.setFlags_ext : (s.setFlags f).ext = s.ext := rfl
@[simp] theorem State.setFlags_inputs : (s.setFlags f).inputs = s.inputs := rfl
@[simp] theorem State.setFlags_cpu_a : (s.setFlags f).cpu.a = s.cpu.a := rfl
@[simp] theorem State.setFlags_cpu_b : (s.setFlags f).cpu.b = s.cpu.b := rfl
@[simp] theorem State.setFlags_cpu_c : (s.setFlags f).cpu.c = s.cpu.c := rfl
@[simp] theorem State.setFlags_cpu_d : (s.setFlags f).cpu.d = s.cpu.d := rfl
@[simp] theorem State.setFlags_cpu_e : (s.setFlags f).cpu.e = s.cpu.e := rfl
@[simp] theorem State.setFlags_cpu_h : (s.setFlags f).cpu.h = s.cpu.h := rfl
@[simp] theorem State.setFlags_cpu_l : (s.setFlags f).cpu.l = s.cpu.l := rfl
@[simp] theorem State.setFlags_cpu_f : (s.setFlags f).cpu.f = f := rfl
@[simp] theorem State.setFlags_cpu_sp : (s.setFlags f).cpu.sp = s.cpu.sp := rfl
@[simp] theorem State.setFlags_cpu_pc : (s.setFlags f).cpu.pc = s.cpu.pc := rfl
@[simp] theorem State.setFlags_cpu_halted : (s.setFlags f).cpu.halted = s.cpu.halted := rfl

@[simp] theorem State.setReg_irq : (s.setReg q v).irq = s.irq := rfl
@[simp] theorem State.setReg_timer : (s.setReg q v).timer = s.timer := rfl
@[simp] theorem State.setReg_ppu : (s.setReg q v).ppu = s.ppu := rfl
@[simp] theorem State.setReg_dma : (s.setReg q v).dma = s.dma := rfl
@[simp] theorem State.setReg_mem : (s.setReg q v).mem = s.mem := rfl
@[simp] theorem State.setReg_bootActive : (s.setReg q v).bootActive = s.bootActive := rfl
@[simp] theorem State.setReg_stopped : (s.setReg q v).stopped = s.stopped := rfl
@[simp] theorem State.setReg_bootImage : (s.setReg q v).bootImage = s.bootImage := rfl
@[simp] theorem State.setReg_ext : (s.setReg q v).ext = s.ext := rfl
@[simp] theorem State.setReg_inputs : (s.setReg q v).inputs = s.inputs := rfl

@[simp] theorem Cpu.setReg_f (c : Cpu) : (c.setReg q v).f = c.f := by cases q <;> rfl
@[simp] theorem Cpu.setReg_sp (c : Cpu) : (c.setReg q v).sp = c.sp := by cases q <;> rfl
@[simp] theorem Cpu.setReg_pc (c : Cpu) : (c.setReg q v).pc = c.pc := by cases q <;> rfl
@[simp] theorem Cpu.setReg_halted (c : Cpu) : (c.setReg q v).halted = c.halted := by cases q <;> rfl
@[simp] theorem State.setReg_cpu : (s.setReg q v).cpu = s.cpu.setReg q v := rfl

/-- A register read back after a write of any register. -/
theorem State.reg_setReg (r : Reg8) : (s.setReg q v).reg r = if r = q then v else s.reg r := by
  cases q <;> cases r <;> rfl

@[simp] theorem State.setPair_irq (p : Pair) : (s.setPair p w).irq = s.irq := by cases p <;> rfl
@[simp] theorem State.setPair_timer (p : Pair) : (s.setPair p w).timer = s.timer := by cases p <;> rfl
@[simp] theorem State.setPair_ppu (p : Pair) : (s.setPair p w).ppu = s.ppu := by cases p <;> rfl
@[simp] theorem State.setPair_dma (p : Pair) : (s.setPair p w).dma = s.dma := by cases p <;> rfl
@[simp] theorem State.setPair_mem (p : Pair) : (s.setPair p w).mem = s.mem := by cases p <;> rfl
@[simp] theorem State.setPair_bootActive (p : Pair) : (s.setPair p w).bootActive = s.bootActive := by cases p <;> rfl
@[simp] theorem State.setPair_stopped (p : Pair) : (s.setPair p w).stopped = s.stopped := by cases p <;> rfl
@[simp] theorem State.setPair_bootImage (p : Pair) : (s.setPair p w).bootImage = s.bootImage := by cases p <;> rfl
@[simp] theorem State.setPair_ext (p : Pair) : (s.setPair p w).ext = s.ext := by cases p <;> rfl
@[simp] theorem State.setPair_inputs (p : Pair) : (s.setPair p w).inputs = s.inputs := by cases p <;> rfl
@[simp] theorem State.setPair_cpu_pc (p : Pair) : (s.setPair p w).cpu.pc = s.cpu.pc := by cases p <;> rfl
@[simp] theorem State.setPair_cpu_halted (p : Pair) : (s.setPair p w).cpu.halted = s.cpu.halted := by cases p <;> rfl

@[simp] theorem State.setStkPair_irq (p : StkPair) : (s.setStkPair p w).irq = s.irq := by cases p <;> rfl
@[simp] theorem State.setStkPair_timer (p : StkPair) : (s.setStkPair p w).timer = s.timer := by cases p <;> rfl
@[simp] theorem State.setStkPair_ppu (p : StkPair) : (s.setStkPair p w).ppu = s.ppu := by cases p <;> rfl
@[simp] theorem State.setStkPair_dma (p : StkPair) : (s.setStkPair p w).dma = s.dma := by cases p <;> rfl
@[simp] theorem State.setStkPair_mem (p : StkPair) : (s.setStkPair p w).mem = s.mem := by cases p <;> rfl
@[simp] theorem State.setStkPair_bootActive (p : StkPair) : (s.setStkPair p w).bootActive = s.bootActive := by cases p <;> rfl
@[simp] theorem State.setStkPair_stopped (p : StkPair) : (s.setStkPair p w).stopped = s.stopped := by cases p <;> rfl
@[simp] theorem State.setStkPair_bootImage (p : StkPair) : (s.setStkPair p w).bootImage = s.bootImage := by cases p <;> rfl
@[simp] theorem State.setStkPair_ext (p : StkPair) : (s.setStkPair p w).ext = s.ext := by cases p <;> rfl
@[simp] theorem State.setStkPair_inputs (p : StkPair) : (s.setStkPair p w).inputs = s.inputs := by cases p <;> rfl
@[simp] theorem State.setStkPair_cpu_pc (p : StkPair) : (s.setStkPair p w).cpu.pc = s.cpu.pc := by cases p <;> rfl
@[simp] theorem State.setStkPair_cpu_halted (p : StkPair) : (s.setStkPair p w).cpu.halted = s.cpu.halted := by cases p <;> rfl

@[simp] theorem request_cpu : (request k s).cpu = s.cpu := rfl
@[simp] theorem request_timer : (request k s).timer = s.timer := rfl
@[simp] theorem request_ppu : (request k s).ppu = s.ppu := rfl
@[simp] theorem request_dma : (request k s).dma = s.dma := rfl
@[simp] theorem request_mem : (request k s).mem = s.mem := rfl
@[simp] theorem request_bootActive : (request k s).bootActive = s.bootActive := rfl
@[simp] theorem request_stopped : (request k s).stopped = s.stopped := rfl
@[simp] theorem request_bootImage : (request k s).bootImage = s.bootImage := rfl
@[simp] theorem request_ext : (request k s).ext = s.ext := rfl
@[simp] theorem request_inputs : (request k s).inputs = s.inputs := rfl
@[simp] theorem request_irq_enabled : (request k s).irq.enabled = s.irq.enabled := rfl
@[simp] theorem request_irq_ime : (request k s).irq.ime = s.irq.ime := rfl
@[simp] theorem request_irq_requested :
    (request k s).irq.requested = setBit s.irq.requested (cfg.irqBit k) := rfl

/-- The halves of a pair, and the pair of its halves (10_state.md R33). -/
@[simp] theorem hi_pairOf (x y : Byte) : hi (pairOf x y) = x := by
  unfold hi pairOf
  apply BitVec.eq_of_getLsbD_eq
  intro i hi
  rw [BitVec.getLsbD_extractLsb']
  show (decide (i < 8) && (x ++ y : BitVec (8 + 8)).getLsbD (8 + i)) = _
  rw [BitVec.getLsbD_append]
  simp [hi]

@[simp] theorem lo_pairOf (x y : Byte) : lo (pairOf x y) = y := by
  unfold lo pairOf
  apply BitVec.eq_of_getLsbD_eq
  intro i hi
  rw [BitVec.getLsbD_extractLsb']
  show (decide (i < 8) && (x ++ y : BitVec (8 + 8)).getLsbD (0 + i)) = _
  rw [BitVec.getLsbD_append]
  simp [hi]

@[simp] theorem pairOf_hi_lo : pairOf (hi w) (lo w) = w := by
  unfold hi lo pairOf
  apply BitVec.eq_of_getLsbD_eq
  intro i hi
  show (BitVec.extractLsb' 8 8 w ++ BitVec.extractLsb' 0 8 w : BitVec (8 + 8)).getLsbD i = _
  rw [BitVec.getLsbD_append]
  by_cases h : i < 8
  · simp [h]
  · have h1 : i - 8 < 8 := by omega
    have h2 : 8 + (i - 8) = i := by omega
    simp [h, h1, h2]

@[simp] theorem State.hl_setHl : (s.setHl w).hl = w := by simp [State.hl]
@[simp] theorem State.pair_setPair (p : Pair) : (s.setPair p w).pair p = w := by
  cases p <;> simp [State.pair, State.bc, State.de, State.setPair]

end

end Sys2Proof.Machine
end

