-- ==== Sys2Proof/Laws/Storage.lean ====
section
/-! SUPPORT. The laws of the canonical stores: read after write, the frame of a write, and that a write keeps the form. -/

namespace Sys2Proof.Machine

variable {w : Nat}

/-- What is read at a key an entry was put at the head for. -/
theorem Sparse.get_putHead (k j : Nat) (v : BitVec w) (t : Sparse w) (h : Sparse.get t k = unlisted) :
    Sparse.get (Sparse.putHead k v t) j = if j = k then v else Sparse.get t j := by
  unfold Sparse.putHead
  split
  · rename_i hv
    split
    · rename_i hj
      rw [hj, h, hv]
    · rfl
  · simp only [Sparse.get]
    by_cases hj : j = k
    · simp [hj]
    · simp [hj, Ne.symm hj]

/-- A key below every listed key reads as unlisted. -/
theorem Sparse.get_of_above (k j : Nat) (m : Sparse w) (h : Sparse.above k m = true) (hj : j ≤ k) :
    Sparse.get m j = unlisted := by
  induction m with
  | nil => rfl
  | cons e t ih =>
    simp only [Sparse.above, List.all_cons, Bool.and_eq_true, decide_eq_true_eq] at h
    have hne : e.1 ≠ j := by omega
    simp only [Sparse.get, hne, if_false]
    exact ih (by simpa [Sparse.above] using h.2)

/-- A write leaves every other key alone, whatever the store. -/
theorem Sparse.get_set_other (m : Sparse w) (k j : Nat) (v : BitVec w) (h : j ≠ k) :
    Sparse.get (Sparse.set m k v) j = Sparse.get m j := by
  induction m with
  | nil =>
    simp only [Sparse.set, Sparse.putHead]
    split
    · rfl
    · simp [Sparse.get, Ne.symm h]
  | cons e t ih =>
    obtain ⟨i, u⟩ := e
    simp only [Sparse.set]
    split
    · simp only [Sparse.putHead]
      split
      · rfl
      · simp [Sparse.get, Ne.symm h]
    · split
      · rename_i hk
        simp only [Sparse.putHead]
        split <;> simp [Sparse.get, hk ▸ Ne.symm h, Ne.symm h]
      · simp only [Sparse.get, ih]

/-- What a write lists: what was listed, or the key written. -/
theorem Sparse.mem_set (m : Sparse w) (k : Nat) (v : BitVec w) (e : Nat × BitVec w) (h : e ∈ Sparse.set m k v) :
    e.1 = k ∨ e ∈ m := by
  induction m with
  | nil =>
    simp only [Sparse.set, Sparse.putHead] at h
    split at h <;> simp_all
  | cons x t ih =>
    obtain ⟨i, u⟩ := x
    simp only [Sparse.set] at h
    split at h
    · simp only [Sparse.putHead] at h
      split at h
      · exact .inr h
      · rcases List.mem_cons.mp h with h | h
        · exact .inl (by rw [h])
        · exact .inr h
    · split at h
      · simp only [Sparse.putHead] at h
        split at h
        · exact .inr (List.mem_cons_of_mem _ h)
        · rcases List.mem_cons.mp h with h | h
          · exact .inl (by rw [h])
          · exact .inr (List.mem_cons_of_mem _ h)
      · rcases List.mem_cons.mp h with h | h
        · exact .inr (by rw [h]; exact List.mem_cons_self)
        · rcases ih h with h | h
          · exact .inl h
          · exact .inr (List.mem_cons_of_mem _ h)

/-- Every key above `k` stays so when a key above `k` is written. -/
theorem Sparse.above_set (m : Sparse w) (k j : Nat) (v : BitVec w) (h : Sparse.above k m = true) (hj : k < j) :
    Sparse.above k (Sparse.set m j v) = true := by
  unfold Sparse.above at *
  rw [List.all_eq_true] at *
  intro e he
  rcases Sparse.mem_set m j v e he with h1 | h1
  · exact decide_eq_true (h1 ▸ hj)
  · exact h e h1

/-- A smaller key is below what a larger one is below. -/
theorem Sparse.above_le (m : Sparse w) (k j : Nat) (h : Sparse.above k m = true) (hj : j ≤ k) :
    Sparse.above j m = true := by
  simp only [Sparse.above, List.all_eq_true, decide_eq_true_eq] at *
  intro e he
  have := h e he
  omega

/-- A write keeps the canonical form. -/
theorem Sparse.wf_set (m : Sparse w) (k : Nat) (v : BitVec w) (h : Sparse.wf m = true) :
    Sparse.wf (Sparse.set m k v) = true := by
  induction m with
  | nil =>
    simp only [Sparse.set, Sparse.putHead]
    split
    · rfl
    · rename_i hv
      simp [Sparse.wf, Sparse.above, hv]
  | cons e t ih =>
    obtain ⟨i, u⟩ := e
    have h' := h
    simp only [Sparse.wf, Bool.and_eq_true, decide_eq_true_eq] at h
    obtain ⟨⟨hu, ha⟩, ht⟩ := h
    simp only [Sparse.set]
    split
    · rename_i hk
      simp only [Sparse.putHead]
      split
      · exact h'
      · rename_i hv
        have := Sparse.above_le t i k ha (by omega)
        simp only [Sparse.wf, Bool.and_eq_true, decide_eq_true_eq]
        refine ⟨⟨hv, ?_⟩, ⟨hu, ha⟩, ht⟩
        simp only [Sparse.above, List.all_cons, Bool.and_eq_true, decide_eq_true_eq]
        exact ⟨hk, by simpa [Sparse.above] using this⟩
    · split
      · rename_i hk
        simp only [Sparse.putHead]
        split
        · exact ht
        · rename_i hv
          simp only [Sparse.wf, Bool.and_eq_true, decide_eq_true_eq]
          exact ⟨⟨hv, hk ▸ ha⟩, ht⟩
      · simp only [Sparse.wf, Bool.and_eq_true, decide_eq_true_eq]
        exact ⟨⟨hu, Sparse.above_set t i k v ha (by omega)⟩, ih ht⟩

/-- In a canonical store a key reads back what was written at it. -/
theorem Sparse.get_set_same (m : Sparse w) (k : Nat) (v : BitVec w) (h : Sparse.wf m = true) :
    Sparse.get (Sparse.set m k v) k = v := by
  induction m with
  | nil =>
    rw [Sparse.set, Sparse.get_putHead _ _ _ _ rfl]
    simp
  | cons e t ih =>
    obtain ⟨i, u⟩ := e
    simp only [Sparse.wf, Bool.and_eq_true, decide_eq_true_eq] at h
    obtain ⟨⟨hu, ha⟩, ht⟩ := h
    simp only [Sparse.set]
    split
    · rename_i hk
      rw [Sparse.get_putHead]
      · simp
      · have hne : i ≠ k := by omega
        simp only [Sparse.get, hne, if_false]
        exact Sparse.get_of_above i k t ha (by omega)
    · split
      · rename_i hk
        rw [Sparse.get_putHead]
        · simp
        · exact Sparse.get_of_above i k t ha (by omega)
      · rename_i hne
        simp only [Sparse.get, Ne.symm hne, if_false]
        exact ih ht

end Sys2Proof.Machine
end

