-- ==== Sys2Proof/Laws/Timer.lean ====
section
/-! SUPPORT. What a tick can do (61_devices.md R463, R464): it counts, and may write TIMA and the timer's request. -/

namespace Sys2Proof.Machine

/-- One TIMA step: TIMA, and perhaps the timer's request. -/
theorem timaStep_cases (s : State) :
    (s.timer.tima ≠ 0xFF#8 ∧ timaStep s = { s with timer := { s.timer with tima := s.timer.tima + 1#8 } }) ∨
    (s.timer.tima = 0xFF#8 ∧ timaStep s = { s with
      timer := { s.timer with tima := s.timer.tma }
      irq := { s.irq with requested := setBit s.irq.requested (cfg.irqBit .timer) } }) := by
  unfold timaStep
  split
  · rename_i h
    exact .inr ⟨h, rfl⟩
  · rename_i h
    exact .inl ⟨h, rfl⟩

/-- One cycle: the count, and perhaps one TIMA step. -/
theorem tickOne_cases (s : State) :
    tickOne s = { s with timer := { s.timer with cycles := s.timer.cycles + 1 } } ∨
    tickOne s = timaStep { s with timer := { s.timer with cycles := s.timer.cycles + 1 } } := by
  unfold tickOne
  dsimp only
  split
  · exact .inr rfl
  · exact .inl rfl

/-- One cycle, in full: only the count, TIMA and the timer's request can change. -/
theorem tickOne_eq (s : State) : ∃ (v : Byte) (q : BitVec 5),
    tickOne s = { s with
      timer := { s.timer with cycles := s.timer.cycles + 1, tima := v }
      irq := { s.irq with requested := q } } ∧
    (q = s.irq.requested ∨ q = setBit s.irq.requested (cfg.irqBit .timer)) := by
  rcases tickOne_cases s with h | h
  · exact ⟨s.timer.tima, s.irq.requested, h, .inl rfl⟩
  · rcases timaStep_cases { s with timer := { s.timer with cycles := s.timer.cycles + 1 } } with ⟨_, h1⟩ | ⟨_, h1⟩
    · exact ⟨s.timer.tima + 1#8, s.irq.requested, by rw [h, h1], .inl rfl⟩
    · exact ⟨s.timer.tma, setBit s.irq.requested (cfg.irqBit .timer), by rw [h, h1], .inr rfl⟩

/-- Setting the timer's request twice is setting it once (60_exceptions.md R411). -/
theorem setBit_setBit {w : Nat} (q : BitVec w) (i : Nat) : setBit (setBit q i) i = setBit q i := by
  unfold setBit
  rw [BitVec.or_assoc, BitVec.or_self]

/-- `n` cycles, in full: only the count, TIMA and the timer's request can change. -/
theorem tick_eq (n : Nat) (s : State) : ∃ (v : Byte) (q : BitVec 5),
    tick n s = { s with
      timer := { s.timer with cycles := s.timer.cycles + n, tima := v }
      irq := { s.irq with requested := q } } ∧
    (q = s.irq.requested ∨ q = setBit s.irq.requested (cfg.irqBit .timer)) := by
  induction n generalizing s with
  | zero => exact ⟨s.timer.tima, s.irq.requested, rfl, .inl rfl⟩
  | succ n ih =>
    obtain ⟨v1, q1, h1, hq1⟩ := tickOne_eq s
    obtain ⟨v2, q2, h2, hq2⟩ := ih (tickOne s)
    refine ⟨v2, q2, ?_, ?_⟩
    · rw [tick, h2, h1]
      simp only [Nat.add_assoc, Nat.add_comm 1 n]
    · rw [h1] at hq2
      rcases hq1 with hq1 | hq1 <;> rcases hq2 with hq2 | hq2 <;> simp [hq1, hq2, setBit_setBit]

section

variable (m n : Nat) (s : State)

@[simp] theorem tick_cpu : (tick n s).cpu = s.cpu := by
  obtain ⟨v, q, h, _⟩ := tick_eq n s; rw [h]
@[simp] theorem tick_ppu : (tick n s).ppu = s.ppu := by
  obtain ⟨v, q, h, _⟩ := tick_eq n s; rw [h]
@[simp] theorem tick_dma : (tick n s).dma = s.dma := by
  obtain ⟨v, q, h, _⟩ := tick_eq n s; rw [h]
@[simp] theorem tick_mem : (tick n s).mem = s.mem := by
  obtain ⟨v, q, h, _⟩ := tick_eq n s; rw [h]
@[simp] theorem tick_bootActive : (tick n s).bootActive = s.bootActive := by
  obtain ⟨v, q, h, _⟩ := tick_eq n s; rw [h]
@[simp] theorem tick_stopped : (tick n s).stopped = s.stopped := by
  obtain ⟨v, q, h, _⟩ := tick_eq n s; rw [h]
@[simp] theorem tick_bootImage : (tick n s).bootImage = s.bootImage := by
  obtain ⟨v, q, h, _⟩ := tick_eq n s; rw [h]
@[simp] theorem tick_ext : (tick n s).ext = s.ext := by
  obtain ⟨v, q, h, _⟩ := tick_eq n s; rw [h]
@[simp] theorem tick_inputs : (tick n s).inputs = s.inputs := by
  obtain ⟨v, q, h, _⟩ := tick_eq n s; rw [h]
@[simp] theorem tick_timer_divOrigin : (tick n s).timer.divOrigin = s.timer.divOrigin := by
  obtain ⟨v, q, h, _⟩ := tick_eq n s; rw [h]
@[simp] theorem tick_timer_tma : (tick n s).timer.tma = s.timer.tma := by
  obtain ⟨v, q, h, _⟩ := tick_eq n s; rw [h]
@[simp] theorem tick_timer_tac : (tick n s).timer.tac = s.timer.tac := by
  obtain ⟨v, q, h, _⟩ := tick_eq n s; rw [h]
@[simp] theorem tick_irq_enabled : (tick n s).irq.enabled = s.irq.enabled := by
  obtain ⟨v, q, h, _⟩ := tick_eq n s; rw [h]
@[simp] theorem tick_irq_ime : (tick n s).irq.ime = s.irq.ime := by
  obtain ⟨v, q, h, _⟩ := tick_eq n s; rw [h]
@[simp] theorem tick_timer_cycles : (tick n s).timer.cycles = s.timer.cycles + n := by
  obtain ⟨v, q, h, _⟩ := tick_eq n s; rw [h]

@[simp] theorem tick_zero : tick 0 s = s := rfl

/-- Ticks add up. -/
theorem tick_tick : tick n (tick m s) = tick (m + n) s := by
  induction m generalizing s with
  | zero => simp
  | succ m ih => rw [tick, ih, Nat.add_right_comm, tick]

end

/-- A tick does not read what it does not write: it commutes with any change of the CPU, the picture generator, the DMA,
the memory, the overlay, the terminal state and the collaborators. -/
theorem tickOne_with (s : State) (c : Cpu) (p : Ppu) (d : Dma) (m : Memory) (b : Bool) (st : Option StopReason)
    (x : ExtDevice) :
    tickOne { s with cpu := c, ppu := p, dma := d, mem := m, bootActive := b, stopped := st, ext := x } =
      { tickOne s with cpu := c, ppu := p, dma := d, mem := m, bootActive := b, stopped := st, ext := x } := by
  simp only [tickOne, timerPeriod, timaStep, request]
  by_cases h1 : (s.timer.tac.getLsbD 2 && (s.timer.cycles + 1) % cfg.timerPeriod (s.timer.tac.extractLsb' 0 2) == 0)
      = true
  · by_cases h2 : s.timer.tima = 0xFF#8 <;> simp only [h1, h2, if_true, if_false]
  · simp only [h1, Bool.false_eq_true, if_false]

theorem tick_with (n : Nat) (s : State) (c : Cpu) (p : Ppu) (d : Dma) (m : Memory) (b : Bool)
    (st : Option StopReason) (x : ExtDevice) :
    tick n { s with cpu := c, ppu := p, dma := d, mem := m, bootActive := b, stopped := st, ext := x } =
      { tick n s with cpu := c, ppu := p, dma := d, mem := m, bootActive := b, stopped := st, ext := x } := by
  induction n generalizing s with
  | zero => rfl
  | succ n ih => rw [tick, tickOne_with, ih]; rfl

/-- A tick and a change of the CPU's registers may change places. -/
theorem tick_withCpu (n : Nat) (s : State) (c : Cpu) : tick n { s with cpu := c } = { tick n s with cpu := c } := by
  have h := tick_with n s c s.ppu s.dma s.mem s.bootActive s.stopped s.ext
  rw [h]
  obtain ⟨v, q, e, _⟩ := tick_eq n s
  rw [e]

end Sys2Proof.Machine
end

