-- ==== Sys2Proof/Laws/Bus.lean ====
section
/-! SUPPORT. What a bus read and a bus write can do (20_memory.md R110, R111, R124), in one lemma each. -/

namespace Sys2Proof.Machine

/-- A region backed by a register is the register's address alone, and readable unless it is the boot-disable register. -/
def Region.ioShape (q : Region Backing) : Bool :=
  match q.backing with
  | .io r => decide (q.start = cfg.ioAddress r) && decide (q.length = 1) && (!q.readable || decide (r ≠ .bootOff))
  | _ => true

/-- Every region of the platform's table has that shape (R131). -/
theorem platformMap_ioShape (b : Bool) (n : Nat) (c : Bool) (q : Region Backing) (h : q ∈ platformMap b n c) :
    q.ioShape = true := by
  unfold platformMap at h
  rw [List.append_assoc, List.append_assoc, List.mem_append] at h
  rcases h with h | h
  · rw [lowRegions_eq] at h
    split at h <;> simp only [List.mem_cons, List.not_mem_nil, or_false] at h
    · rcases h with rfl | rfl <;> rfl
    · subst h; rfl
  · have hall : (controlRegions c ++ (wideRegions ++ registerRegions)).all Region.ioShape = true := by
      cases c <;> decide
    exact List.all_eq_true.mp hall q h

/-- A register is read at its own address, and the boot-disable register is not read (R131, R133). -/
theorem readOwner_io {b : Bool} {n : Nat} {a : Word} {r : IoReg} (hn : n ≤ 256)
    (h : readOwner b n a = some (.io r)) : a.toNat = cfg.ioAddress r ∧ r ≠ .bootOff := by
  rw [readOwner_iff b n a _ hn] at h
  obtain ⟨q, hm, hr, hc, hb⟩ := h
  have hs := platformMap_ioShape b n false q hm
  simp only [Region.ioShape, hb, hr, Region.covers, Bool.and_eq_true, decide_eq_true_eq, Bool.or_eq_true,
    Bool.not_true, Bool.false_eq_true, false_or] at hs hc
  exact ⟨by omega, hs.2⟩

/-- A register is written at its own address. -/
theorem writeOwner_io {c : Bool} {a : Word} {r : IoReg} (h : writeOwner c a = some (.io r)) :
    a.toNat = cfg.ioAddress r := by
  rw [writeOwner_iff c a] at h
  obtain ⟨q, hm, hr, hc, hb⟩ := h
  have hs := platformMap_ioShape false 0 c q hm
  simp only [Region.ioShape, hb, Region.covers, Bool.and_eq_true, decide_eq_true_eq] at hs hc
  omega

/-- What takes a write below 0x8000 is the banking control, if there is one; a write to ROM without one is an
unmapped-write (R111, R130). -/
theorem writeOwner_rom (c : Bool) (a : Word) (h : a.toNat < 0x8000) :
    writeOwner c a = if c then some .ext else none := by
  cases c with
  | true =>
    refine (writeOwner_iff true a _).mpr ⟨⟨0x0000, 0x8000, .writeOnly, .ext⟩, by decide, rfl, ?_, rfl⟩
    simp [Region.covers, h]
  | false =>
    cases hw : writeOwner false a with
    | none => rfl
    | some x =>
      rw [writeOwner_iff] at hw
      obtain ⟨q, hm, hr, hc, _⟩ := hw
      simp only [platformMap, lowRegions_eq, controlRegions_eq, wideRegions_eq, registerRegions_eq, Bool.false_and,
        Bool.false_eq_true, if_false, List.cons_append, List.nil_append, List.mem_cons, List.not_mem_nil,
        or_false] at hm
      rcases hm with rfl | rfl | rfl | rfl | rfl | rfl | rfl | rfl | rfl | rfl | rfl | rfl | rfl | rfl | rfl | rfl |
        rfl | rfl | rfl | rfl | rfl | rfl | rfl | rfl | rfl | rfl | rfl | rfl | rfl <;>
        simp only [Region.covers, Region.writable, Bool.and_eq_true, decide_eq_true_eq, Bool.false_eq_true] at hr hc <;>
        omega

/-- The buffers are written at their addresses and at no other (R130). -/
theorem writeOwner_buffer (c : Bool) (a : Word) : writeOwner c a = some .buffer ↔ bufferAddress a.toNat = true := by
  rw [writeOwner_iff c a]
  simp only [platformMap, lowRegions_eq, controlRegions_eq, wideRegions_eq, registerRegions_eq, Bool.false_and,
    Bool.false_eq_true, if_false]
  cases c <;>
    simp only [Bool.false_eq_true, if_false, if_true, List.cons_append, List.nil_append, List.mem_cons,
      List.not_mem_nil, or_false, exists_eq_or_imp, exists_eq_left, Region.writable, Region.covers, bufferAddress] <;>
    simp <;> omega

/-- The buffers are read at their addresses and at no other (R130). -/
theorem readOwner_buffer (b : Bool) (n : Nat) (a : Word) (hn : n ≤ 256) :
    readOwner b n a = some .buffer ↔ bufferAddress a.toNat = true := by
  rw [readOwner_iff b n a _ hn]
  simp only [platformMap, lowRegions_eq, controlRegions_eq, wideRegions_eq, registerRegions_eq, Bool.false_eq_true,
    if_false]
  split <;>
    simp only [List.cons_append, List.nil_append, List.mem_cons, List.not_mem_nil, or_false, exists_eq_or_imp,
      exists_eq_left, Region.readable, Region.covers, bufferAddress] <;>
    simp <;> omega

/-- No write reaches the overlay: it is read-only (R111, R133). -/
theorem writeOwner_ne_boot (c : Bool) (a : Word) : writeOwner c a ≠ some .boot := by
  intro h
  rw [writeOwner_iff c a] at h
  obtain ⟨q, hm, -, -, hb⟩ := h
  have hall : (platformMap false 0 c).all (fun q => decide (q.backing ≠ .boot)) = true := by cases c <;> decide
  exact of_decide_eq_true (List.all_eq_true.mp hall q hm) hb

/-- What a bus write can do: nothing, note an access, write a byte of a buffer, write a register. -/
theorem memWrite_cases (a : Word) (v : Byte) (s : State) :
    (s.writeOwner a = none ∧ memWrite a v s = s) ∨
    (s.writeOwner a = some .ext ∧ memWrite a v s = { s with ext := s.ext.note (.write a v) }) ∨
    (bufferAddress a.toNat = true ∧ memWrite a v s = { s with mem := s.mem.write a.toNat v }) ∨
    (∃ r, s.writeOwner a = some (.io r) ∧ a.toNat = cfg.ioAddress r ∧ memWrite a v s = ioWrite r v s) := by
  unfold memWrite memWrite?
  cases h : s.writeOwner a with
  | none => exact .inl ⟨rfl, rfl⟩
  | some x =>
    cases x with
    | boot => exact absurd h (writeOwner_ne_boot _ a)
    | ext => exact .inr (.inl ⟨rfl, rfl⟩)
    | buffer => exact .inr (.inr (.inl ⟨(writeOwner_buffer _ a).mp h, rfl⟩))
    | io r => exact .inr (.inr (.inr ⟨r, rfl, writeOwner_io h, rfl⟩))

section

variable (a : Word) (v : Byte) (s : State)

/-- A register write leaves everything but its register (10_state.md R43 to R73). -/
@[simp] theorem ioWrite_cpu (r : IoReg) : (ioWrite r v s).cpu = s.cpu := by
  cases r <;> simp only [ioWrite] <;> (try split) <;> rfl
@[simp] theorem ioWrite_mem (r : IoReg) : (ioWrite r v s).mem = s.mem := by
  cases r <;> simp only [ioWrite] <;> (try split) <;> rfl
@[simp] theorem ioWrite_ext (r : IoReg) : (ioWrite r v s).ext = s.ext := by
  cases r <;> simp only [ioWrite] <;> (try split) <;> rfl
@[simp] theorem ioWrite_stopped (r : IoReg) : (ioWrite r v s).stopped = s.stopped := by
  cases r <;> simp only [ioWrite] <;> (try split) <;> rfl
@[simp] theorem ioWrite_bootImage (r : IoReg) : (ioWrite r v s).bootImage = s.bootImage := by
  cases r <;> simp only [ioWrite] <;> (try split) <;> rfl
@[simp] theorem ioWrite_inputs (r : IoReg) : (ioWrite r v s).inputs = s.inputs := by
  cases r <;> simp only [ioWrite] <;> (try split) <;> rfl
@[simp] theorem ioWrite_irq_ime (r : IoReg) : (ioWrite r v s).irq.ime = s.irq.ime := by
  cases r <;> simp only [ioWrite] <;> (try split) <;> rfl
@[simp] theorem ioWrite_timer_cycles (r : IoReg) : (ioWrite r v s).timer.cycles = s.timer.cycles := by
  cases r <;> simp only [ioWrite] <;> (try split) <;> rfl
@[simp] theorem ioWrite_ppu_ly (r : IoReg) : (ioWrite r v s).ppu.ly = s.ppu.ly := by
  cases r <;> simp only [ioWrite] <;> (try split) <;> rfl
@[simp] theorem ioWrite_ppu_mode (r : IoReg) : (ioWrite r v s).ppu.mode = s.ppu.mode := by
  cases r <;> simp only [ioWrite] <;> (try split) <;> rfl
@[simp] theorem ioWrite_ppu_lineCycle (r : IoReg) : (ioWrite r v s).ppu.lineCycle = s.ppu.lineCycle := by
  cases r <;> simp only [ioWrite] <;> (try split) <;> rfl
@[simp] theorem ioWrite_ppu_lycMatch (r : IoReg) : (ioWrite r v s).ppu.lycMatch = s.ppu.lycMatch := by
  cases r <;> simp only [ioWrite] <;> (try split) <;> rfl
@[simp] theorem ioWrite_ppu_visible (r : IoReg) : (ioWrite r v s).ppu.visible = s.ppu.visible := by
  cases r <;> simp only [ioWrite] <;> (try split) <;> rfl
@[simp] theorem ioWrite_ppu_fbDraw (r : IoReg) : (ioWrite r v s).ppu.fbDraw = s.ppu.fbDraw := by
  cases r <;> simp only [ioWrite] <;> (try split) <;> rfl
@[simp] theorem ioWrite_ppu_fbReady (r : IoReg) : (ioWrite r v s).ppu.fbReady = s.ppu.fbReady := by
  cases r <;> simp only [ioWrite] <;> (try split) <;> rfl
@[simp] theorem ioWrite_ppu_frameReady (r : IoReg) : (ioWrite r v s).ppu.frameReady = s.ppu.frameReady := by
  cases r <;> simp only [ioWrite] <;> (try split) <;> rfl
@[simp] theorem ioWrite_ppu_seen (r : IoReg) : (ioWrite r v s).ppu.seen = s.ppu.seen := by
  cases r <;> simp only [ioWrite] <;> (try split) <;> rfl

@[simp] theorem memWrite_cpu : (memWrite a v s).cpu = s.cpu := by
  rcases memWrite_cases a v s with ⟨_, h⟩ | ⟨_, h⟩ | ⟨_, h⟩ | ⟨r, _, _, h⟩ <;> rw [h]; exact ioWrite_cpu v s r
@[simp] theorem memWrite_stopped : (memWrite a v s).stopped = s.stopped := by
  rcases memWrite_cases a v s with ⟨_, h⟩ | ⟨_, h⟩ | ⟨_, h⟩ | ⟨r, _, _, h⟩ <;> rw [h]; exact ioWrite_stopped v s r
@[simp] theorem memWrite_bootImage : (memWrite a v s).bootImage = s.bootImage := by
  rcases memWrite_cases a v s with ⟨_, h⟩ | ⟨_, h⟩ | ⟨_, h⟩ | ⟨r, _, _, h⟩ <;> rw [h]; exact ioWrite_bootImage v s r
@[simp] theorem memWrite_inputs : (memWrite a v s).inputs = s.inputs := by
  rcases memWrite_cases a v s with ⟨_, h⟩ | ⟨_, h⟩ | ⟨_, h⟩ | ⟨r, _, _, h⟩ <;> rw [h]; exact ioWrite_inputs v s r
@[simp] theorem memWrite_irq_ime : (memWrite a v s).irq.ime = s.irq.ime := by
  rcases memWrite_cases a v s with ⟨_, h⟩ | ⟨_, h⟩ | ⟨_, h⟩ | ⟨r, _, _, h⟩ <;> rw [h]; exact ioWrite_irq_ime v s r
@[simp] theorem memWrite_timer_cycles : (memWrite a v s).timer.cycles = s.timer.cycles := by
  rcases memWrite_cases a v s with ⟨_, h⟩ | ⟨_, h⟩ | ⟨_, h⟩ | ⟨r, _, _, h⟩ <;> rw [h]; exact ioWrite_timer_cycles v s r
@[simp] theorem memWrite_ppu_ly : (memWrite a v s).ppu.ly = s.ppu.ly := by
  rcases memWrite_cases a v s with ⟨_, h⟩ | ⟨_, h⟩ | ⟨_, h⟩ | ⟨r, _, _, h⟩ <;> rw [h]; exact ioWrite_ppu_ly v s r
@[simp] theorem memWrite_ppu_mode : (memWrite a v s).ppu.mode = s.ppu.mode := by
  rcases memWrite_cases a v s with ⟨_, h⟩ | ⟨_, h⟩ | ⟨_, h⟩ | ⟨r, _, _, h⟩ <;> rw [h]; exact ioWrite_ppu_mode v s r
@[simp] theorem memWrite_ppu_lineCycle : (memWrite a v s).ppu.lineCycle = s.ppu.lineCycle := by
  rcases memWrite_cases a v s with ⟨_, h⟩ | ⟨_, h⟩ | ⟨_, h⟩ | ⟨r, _, _, h⟩ <;> rw [h]; exact ioWrite_ppu_lineCycle v s r
@[simp] theorem memWrite_ppu_lycMatch : (memWrite a v s).ppu.lycMatch = s.ppu.lycMatch := by
  rcases memWrite_cases a v s with ⟨_, h⟩ | ⟨_, h⟩ | ⟨_, h⟩ | ⟨r, _, _, h⟩ <;> rw [h]; exact ioWrite_ppu_lycMatch v s r
@[simp] theorem memWrite_ppu_visible : (memWrite a v s).ppu.visible = s.ppu.visible := by
  rcases memWrite_cases a v s with ⟨_, h⟩ | ⟨_, h⟩ | ⟨_, h⟩ | ⟨r, _, _, h⟩ <;> rw [h]; exact ioWrite_ppu_visible v s r
@[simp] theorem memWrite_ppu_fbDraw : (memWrite a v s).ppu.fbDraw = s.ppu.fbDraw := by
  rcases memWrite_cases a v s with ⟨_, h⟩ | ⟨_, h⟩ | ⟨_, h⟩ | ⟨r, _, _, h⟩ <;> rw [h]; exact ioWrite_ppu_fbDraw v s r
@[simp] theorem memWrite_ppu_fbReady : (memWrite a v s).ppu.fbReady = s.ppu.fbReady := by
  rcases memWrite_cases a v s with ⟨_, h⟩ | ⟨_, h⟩ | ⟨_, h⟩ | ⟨r, _, _, h⟩ <;> rw [h]; exact ioWrite_ppu_fbReady v s r
@[simp] theorem memWrite_ppu_frameReady : (memWrite a v s).ppu.frameReady = s.ppu.frameReady := by
  rcases memWrite_cases a v s with ⟨_, h⟩ | ⟨_, h⟩ | ⟨_, h⟩ | ⟨r, _, _, h⟩ <;> rw [h]; exact ioWrite_ppu_frameReady v s r
@[simp] theorem memWrite_ppu_seen : (memWrite a v s).ppu.seen = s.ppu.seen := by
  rcases memWrite_cases a v s with ⟨_, h⟩ | ⟨_, h⟩ | ⟨_, h⟩ | ⟨r, _, _, h⟩ <;> rw [h]; exact ioWrite_ppu_seen v s r

/-- A bus write changes no byte of the core's memory but the one at its address. -/
theorem memWrite_mem_other (k : Nat) (h : k ≠ a.toNat) : (memWrite a v s).mem.read k = s.mem.read k := by
  rcases memWrite_cases a v s with ⟨_, e⟩ | ⟨_, e⟩ | ⟨_, e⟩ | ⟨r, _, _, e⟩ <;> rw [e]
  · exact Sparse.get_set_other s.mem a.toNat k v h
  · rw [ioWrite_mem]

/-- A bus write to a buffer writes the byte. -/
theorem memWrite_buffer (h : bufferAddress a.toNat = true) :
    memWrite a v s = { s with mem := s.mem.write a.toNat v } := by
  unfold memWrite memWrite? State.writeOwner
  rw [(writeOwner_buffer _ a).mpr h]
  rfl

/-- A bus write does not read the CPU. -/
theorem memWrite_withCpu (c : Cpu) : memWrite a v { s with cpu := c } = { memWrite a v s with cpu := c } := by
  have hw : State.writeOwner { s with cpu := c } a = s.writeOwner a := rfl
  unfold memWrite memWrite?
  rw [hw]
  cases s.writeOwner a with
  | none => rfl
  | some x =>
    cases x with
    | boot => rfl
    | ext => rfl
    | buffer => rfl
    | io r => cases r <;> simp only [Option.getD_some, ioWrite, resetDiv] <;> (try split) <;> rfl

/-- A bus read does not read the CPU. -/
@[simp] theorem memPeek_withCpu (c : Cpu) : memPeek a { s with cpu := c } = memPeek a s := rfl

/-- The effect of a bus read does not read the CPU. -/
theorem memReadEffect_withCpu (c : Cpu) :
    memReadEffect a { s with cpu := c } = { memReadEffect a s with cpu := c } := by
  unfold memReadEffect
  show (match s.readOwner a with | some .ext => _ | _ => _) = _
  cases s.readOwner a with
  | none => rfl
  | some x => cases x <;> rfl

/-- "No read in the core has a side effect on core state" (R124): only the collaborators may have seen it. -/
theorem memReadEffect_cases : memReadEffect a s = s ∨
    (s.readOwner a = some .ext ∧ memReadEffect a s = { s with ext := s.ext.note (.read a) }) := by
  unfold memReadEffect
  split
  · rename_i h
    exact .inr ⟨h, rfl⟩
  · exact .inl rfl

@[simp] theorem memReadEffect_cpu : (memReadEffect a s).cpu = s.cpu := by
  rcases memReadEffect_cases a s with h | ⟨_, h⟩ <;> rw [h]
@[simp] theorem memReadEffect_irq : (memReadEffect a s).irq = s.irq := by
  rcases memReadEffect_cases a s with h | ⟨_, h⟩ <;> rw [h]
@[simp] theorem memReadEffect_timer : (memReadEffect a s).timer = s.timer := by
  rcases memReadEffect_cases a s with h | ⟨_, h⟩ <;> rw [h]
@[simp] theorem memReadEffect_ppu : (memReadEffect a s).ppu = s.ppu := by
  rcases memReadEffect_cases a s with h | ⟨_, h⟩ <;> rw [h]
@[simp] theorem memReadEffect_dma : (memReadEffect a s).dma = s.dma := by
  rcases memReadEffect_cases a s with h | ⟨_, h⟩ <;> rw [h]
@[simp] theorem memReadEffect_mem : (memReadEffect a s).mem = s.mem := by
  rcases memReadEffect_cases a s with h | ⟨_, h⟩ <;> rw [h]
@[simp] theorem memReadEffect_bootActive : (memReadEffect a s).bootActive = s.bootActive := by
  rcases memReadEffect_cases a s with h | ⟨_, h⟩ <;> rw [h]
@[simp] theorem memReadEffect_stopped : (memReadEffect a s).stopped = s.stopped := by
  rcases memReadEffect_cases a s with h | ⟨_, h⟩ <;> rw [h]
@[simp] theorem memReadEffect_bootImage : (memReadEffect a s).bootImage = s.bootImage := by
  rcases memReadEffect_cases a s with h | ⟨_, h⟩ <;> rw [h]
@[simp] theorem memReadEffect_inputs : (memReadEffect a s).inputs = s.inputs := by
  rcases memReadEffect_cases a s with h | ⟨_, h⟩ <;> rw [h]

end

end Sys2Proof.Machine
end

