-- ==== Sys2Proof/Laws/Picture.lean ====
section
/-! SUPPORT. What the picture generator and the DMA can never do, as one relation that every part of `PpuStep` satisfies
and that composes (61_devices.md R480 to R502). -/

namespace Sys2Proof.Machine

section

variable (i : Nat) (s : State)

@[simp] theorem requestLcdIf_ppu : (requestLcdIf i s).ppu = s.ppu := by
  unfold requestLcdIf; split <;> rfl
@[simp] theorem requestLcdIf_cpu : (requestLcdIf i s).cpu = s.cpu := by
  unfold requestLcdIf; split <;> rfl
@[simp] theorem requestLcdIf_mem : (requestLcdIf i s).mem = s.mem := by
  unfold requestLcdIf; split <;> rfl
@[simp] theorem requestLcdIf_timer : (requestLcdIf i s).timer = s.timer := by
  unfold requestLcdIf; split <;> rfl
@[simp] theorem requestLcdIf_dma : (requestLcdIf i s).dma = s.dma := by
  unfold requestLcdIf; split <;> rfl

/-- An lcd-status request sets bit 1 of the requested vector if the enable bit is set, and is nothing else (R484). -/
theorem requestLcdIf_requested : (requestLcdIf i s).irq.requested =
    s.irq.requested ||| (if s.ppu.statEn.getLsbD i then 0b00010#5 else 0#5) := by
  unfold requestLcdIf
  split
  · rfl
  · exact (BitVec.or_zero).symm

end

/-- From `s` to `t` only the picture generator and the DMA engine have run: the CPU, the clock and the configuration are as
before, and so is every byte of the core outside the sprite table. -/
structure Paced (s t : State) : Prop where
  cpu : t.cpu = s.cpu
  timer : t.timer = s.timer
  ime : t.irq.ime = s.irq.ime
  enabled : t.irq.enabled = s.irq.enabled
  stopped : t.stopped = s.stopped
  bootActive : t.bootActive = s.bootActive
  bootImage : t.bootImage = s.bootImage
  inputs : t.inputs = s.inputs
  statEn : t.ppu.statEn = s.ppu.statEn
  lyc : t.ppu.lyc = s.ppu.lyc
  bytes : ∀ k, k < 0xFE00 ∨ 0xFEA0 ≤ k → t.mem.read k = s.mem.read k
  canonical : s.mem.wf = true → t.mem.wf = true
  keys : (∀ e ∈ s.mem, bufferAddress e.1 = true) → ∀ e ∈ t.mem, bufferAddress e.1 = true
  rom : s.ext.rom.wf = true → t.ext.rom.wf = true
  draw : Sparse.wf s.ppu.fbDraw = true → Sparse.wf t.ppu.fbDraw = true
  ready : Sparse.wf s.ppu.fbDraw = true → Sparse.wf s.ppu.fbReady = true → Sparse.wf t.ppu.fbReady = true

theorem Paced.refl (s : State) : Paced s s :=
  ⟨rfl, rfl, rfl, rfl, rfl, rfl, rfl, rfl, rfl, rfl, fun _ _ => rfl, id, id, id, id, fun _ => id⟩

theorem Paced.trans {s t u : State} (h : Paced s t) (k : Paced t u) : Paced s u where
  cpu := k.cpu.trans h.cpu
  timer := k.timer.trans h.timer
  ime := k.ime.trans h.ime
  enabled := k.enabled.trans h.enabled
  stopped := k.stopped.trans h.stopped
  bootActive := k.bootActive.trans h.bootActive
  bootImage := k.bootImage.trans h.bootImage
  inputs := k.inputs.trans h.inputs
  statEn := k.statEn.trans h.statEn
  lyc := k.lyc.trans h.lyc
  bytes := fun a e => (k.bytes a e).trans (h.bytes a e)
  canonical := fun e => k.canonical (h.canonical e)
  keys := fun e => k.keys (h.keys e)
  rom := fun e => k.rom (h.rom e)
  draw := fun e => k.draw (h.draw e)
  ready := fun e f => k.ready (h.draw e) (h.ready e f)

/-- A change of the DMA registers. -/
theorem Paced.withDma (s : State) (d : Dma) : Paced s { s with dma := d } :=
  ⟨rfl, rfl, rfl, rfl, rfl, rfl, rfl, rfl, rfl, rfl, fun _ _ => rfl, id, id, id, id, fun _ => id⟩

/-- A change of the picture generator's place. -/
theorem Paced.withPlace (s : State) (ly : Byte) (m : Mode) (c n : Nat) (b : Bool) (v : List Nat) :
    Paced s { s with
      ppu := { s.ppu with ly := ly, mode := m, lineCycle := c, seen := n, lycMatch := b, visible := v } } :=
  ⟨rfl, rfl, rfl, rfl, rfl, rfl, rfl, rfl, rfl, rfl, fun _ _ => rfl, id, id, id, id, fun _ => id⟩

/-- A request. -/
theorem Paced.request (k : IrqKind) (s : State) : Paced s (request k s) :=
  ⟨rfl, rfl, rfl, rfl, rfl, rfl, rfl, rfl, rfl, rfl, fun _ _ => rfl, id, id, id, id, fun _ => id⟩

theorem Paced.requestLcdIf (i : Nat) (s : State) : Paced s (requestLcdIf i s) := by
  unfold Machine.requestLcdIf
  split
  · exact Paced.request .lcdStatus s
  · exact Paced.refl s

/-- A bus read, as DMA makes it. -/
theorem Paced.read (a : Word) (s : State) : Paced s (memReadEffect a s) := by
  rcases memReadEffect_cases a s with h | ⟨_, h⟩ <;> rw [h]
  · exact Paced.refl s
  · refine ⟨rfl, rfl, rfl, rfl, rfl, rfl, rfl, rfl, rfl, rfl, fun _ _ => rfl, id, id, fun e => ?_, id, fun _ => id⟩
    cases hx : s.ext with
    | romOnly rom => rw [hx] at e; exact e
    | oracle history => rfl

/-- A byte of the sprite table written. -/
theorem Paced.setOam (i : Nat) (v : Byte) (s : State) : Paced s (s.setOam i v) := by
  unfold State.setOam
  split
  · rename_i hi
    have hi : i < 160 := hi
    have ha : oamBase + i = 0xFE00 + i := rfl
    refine ⟨rfl, rfl, rfl, rfl, rfl, rfl, rfl, rfl, rfl, rfl, fun k hk => ?_, Sparse.wf_set _ _ _, fun hk e he => ?_,
      id, id, fun _ => id⟩
    · exact Sparse.get_set_other _ _ _ _ (by omega)
    · rcases Sparse.mem_set _ _ _ _ he with h1 | h1
      · rw [h1]
        simp [bufferAddress]
        omega
      · exact hk e h1
  · exact Paced.refl s

theorem Paced.dmaCopyByte (s : State) : Paced s (dmaCopyByte s) := by
  unfold Machine.dmaCopyByte
  dsimp only
  split <;>
    exact ((((Paced.withDma s _).trans (Paced.read _ _)).trans (Paced.setOam _ _ _)).trans (Paced.withDma _ _)).trans
      (Paced.withDma _ _)

theorem Paced.dmaLoop (n : Nat) (s : State) : Paced s (dmaLoop n s) := by
  induction n generalizing s with
  | zero => exact Paced.refl s
  | succ n ih =>
    unfold Machine.dmaLoop
    split
    · exact (Paced.dmaCopyByte s).trans (ih _)
    · exact Paced.refl s

theorem Paced.dmaAdvance (n : Nat) (s : State) : Paced s (dmaAdvance n s) := by
  unfold Machine.dmaAdvance
  split
  · exact (Paced.withDma s _).trans (Paced.dmaLoop _ _)
  · exact Paced.refl s

/-- All that DMA can change: the core's memory, what the collaborators have seen, and its own registers (R502). -/
theorem dmaAdvance_shape (n : Nat) (s : State) :
    ∃ m e d, dmaAdvance n s = { s with mem := m, ext := e, dma := d } := by
  have byte : ∀ s : State, ∃ m e d, dmaCopyByte s = { s with mem := m, ext := e, dma := d } := by
    intro s
    have read : ∀ (a : Word) (t : State), ∃ e, memReadEffect a t = { t with ext := e } := by
      intro a t
      rcases memReadEffect_cases a t with h | ⟨_, h⟩
      · exact ⟨t.ext, h⟩
      · exact ⟨_, h⟩
    have write : ∀ (i : Nat) (v : Byte) (t : State), ∃ m, t.setOam i v = { t with mem := m } := by
      intro i v t
      unfold State.setOam
      split
      · exact ⟨_, rfl⟩
      · exact ⟨t.mem, rfl⟩
    unfold dmaCopyByte memRead
    dsimp only
    obtain ⟨e, he⟩ := read (s.dma.src + BitVec.ofNat 16 s.dma.index)
      { s with dma := { s.dma with budget := s.dma.budget - cfg.dmaByteCycles } }
    rw [he]
    split <;> exact
      (write _ _ _).elim fun m hm => ⟨m, e, _, by rw [hm]⟩
  have loop : ∀ (k : Nat) (s : State), ∃ m e d, dmaLoop k s = { s with mem := m, ext := e, dma := d } := by
    intro k
    induction k with
    | zero => exact fun s => ⟨s.mem, s.ext, s.dma, rfl⟩
    | succ k ih =>
      intro s
      unfold dmaLoop
      split
      · obtain ⟨m, e, d, h⟩ := byte s
        obtain ⟨m', e', d', h'⟩ := ih (dmaCopyByte s)
        exact ⟨m', e', d', by rw [h', h]⟩
      · exact ⟨s.mem, s.ext, s.dma, rfl⟩
  unfold dmaAdvance
  split
  · exact loop _ _
  · exact ⟨s.mem, s.ext, s.dma, rfl⟩

/-- Drawing keeps the canonical form of a frame. -/
theorem drawColumns_wf (s : State) (n : Nat) (fb : Frame) (h : Sparse.wf fb = true) :
    Sparse.wf (drawColumns s n fb) = true := by
  induction n with
  | zero => exact h
  | succ n ih => exact Sparse.wf_set _ _ _ ih

theorem Paced.renderLine (s : State) : Paced s (renderLine s) := by
  unfold Machine.renderLine
  split
  · have hw := drawColumns_wf s cfg.screenW s.ppu.fbDraw
    generalize drawColumns s cfg.screenW s.ppu.fbDraw = fb at hw
    exact ⟨rfl, rfl, rfl, rfl, rfl, rfl, rfl, rfl, rfl, rfl, fun _ _ => rfl, id, id, id, hw, fun _ => id⟩
  · exact Paced.refl s

theorem Paced.nextLine (s : State) : Paced s (nextLine s) := Paced.withPlace s _ _ _ _ _ _

theorem Paced.enterSearch (s : State) : Paced s (enterSearch s) :=
  ((Paced.withPlace s s.ppu.ly .search s.ppu.lineCycle s.ppu.seen s.ppu.lycMatch s.ppu.visible).trans
    (Paced.withPlace _ _ _ _ _ _ _)).trans (Paced.requestLcdIf _ _)

theorem Paced.enterHblank (s : State) : Paced s (enterHblank s) :=
  ((Paced.withPlace s s.ppu.ly .hblank s.ppu.lineCycle s.ppu.seen s.ppu.lycMatch s.ppu.visible).trans
    (Paced.renderLine _)).trans (Paced.requestLcdIf _ _)

theorem Paced.enterVblank (s : State) : Paced s (enterVblank s) :=
  Paced.trans (t := Machine.request .vblank
      { s with ppu := { s.ppu with mode := .vblank, fbReady := s.ppu.fbDraw, frameReady := true } })
    ⟨rfl, rfl, rfl, rfl, rfl, rfl, rfl, rfl, rfl, rfl, fun _ _ => rfl, id, id, id, id, fun e _ => e⟩
    (Paced.requestLcdIf _ _)

theorem Paced.transition (s t : State) (h : transition s = some t) : Paced s t := by
  unfold Machine.transition at h
  split at h <;> split at h <;> cases h
  · exact Paced.withPlace s s.ppu.ly .transfer s.ppu.lineCycle s.ppu.seen s.ppu.lycMatch s.ppu.visible
  · exact Paced.enterHblank s
  · split
    · exact (Paced.nextLine s).trans (Paced.enterVblank _)
    · exact (Paced.nextLine s).trans (Paced.enterSearch _)
  · split
    · exact ((Paced.nextLine s).trans (Paced.withPlace _ 0#8 _ _ _ _ _)).trans (Paced.enterSearch _)
    · exact Paced.nextLine s

theorem Paced.transitions (n : Nat) (s : State) : Paced s (transitions n s) := by
  induction n generalizing s with
  | zero => exact Paced.refl s
  | succ n ih =>
    unfold Machine.transitions
    split
    · exact Paced.refl s
    · exact (Paced.transition s _ ‹_›).trans (ih _)

theorem Paced.lineCompare (s : State) : Paced s (lineCompare s) := by
  unfold Machine.lineCompare
  dsimp only
  have h := Paced.withPlace s s.ppu.ly s.ppu.mode s.ppu.lineCycle s.ppu.seen (decide (s.ppu.ly = s.ppu.lyc))
    s.ppu.visible
  split
  · exact h.trans (Paced.requestLcdIf _ _)
  · exact h

/-- `PpuStep`. -/
theorem Paced.ppuStep (total : Nat) (s : State) : Paced s (ppuStep total s) := by
  unfold Machine.ppuStep
  exact ((((Paced.withPlace s s.ppu.ly s.ppu.mode s.ppu.lineCycle total s.ppu.lycMatch s.ppu.visible).trans
    (Paced.dmaAdvance _ _)).trans (Paced.withPlace _ _ _ _ _ _ _)).trans (Paced.transitions _ _)).trans
    (Paced.lineCompare _)

/-- All that a transition can change: the picture generator, its cycle count apart, and requests (R483 to R485). -/
theorem transition_shape (s t : State) (h : transition s = some t) :
    ∃ p q, t = { s with ppu := p, irq := { s.irq with requested := q } } ∧ p.seen = s.ppu.seen := by
  have lcd : ∀ i (u : State), ∃ q, requestLcdIf i u = { u with irq := { u.irq with requested := q } } := by
    intro i u
    unfold requestLcdIf
    split
    · exact ⟨_, rfl⟩
    · exact ⟨u.irq.requested, rfl⟩
  have search : ∀ u : State, ∃ p q, enterSearch u = { u with ppu := p, irq := { u.irq with requested := q } } ∧
      p.seen = u.ppu.seen := fun u => (lcd 2 _).elim fun q hq => ⟨_, q, hq, rfl⟩
  unfold transition at h
  split at h <;> split at h <;> cases h
  · exact ⟨_, s.irq.requested, rfl, rfl⟩
  · unfold enterHblank renderLine
    split
    · exact (lcd 0 _).elim fun q hq => ⟨_, q, hq, rfl⟩
    · exact (lcd 0 _).elim fun q hq => ⟨_, q, hq, rfl⟩
  · split
    · exact (lcd 1 _).elim fun q hq => ⟨_, q, hq, rfl⟩
    · exact search (nextLine s)
  · split
    · exact search { nextLine s with ppu := { (nextLine s).ppu with ly := 0#8 } }
    · exact ⟨_, s.irq.requested, rfl, rfl⟩

/-- A bound on the transitions still due: three for each line in the offset, and those left in the line. -/
def transitionsLeft (s : State) : Nat :=
  3 * (s.ppu.lineCycle / 456) + (match s.ppu.mode with | .search => 2 | .transfer => 1 | .hblank | .vblank => 0)

/-- Each transition makes the bound smaller. -/
theorem transition_left (s t : State) (h : transition s = some t) : transitionsLeft t < transitionsLeft s := by
  have line : ∀ u : State, u.ppu.lineCycle + 456 = s.ppu.lineCycle →
      3 * (u.ppu.lineCycle / 456) + 2 < 3 * (s.ppu.lineCycle / 456) + 0 := by
    intro u hu
    omega
  unfold transition at h
  split at h <;> rename_i hm <;> split at h <;> cases h <;> rename_i hc <;> simp only [transitionsLeft, hm]
  · simp [enterTransfer]
  · have e : (renderLine { s with ppu := { s.ppu with mode := .hblank } }).ppu.lineCycle = s.ppu.lineCycle ∧
        (renderLine { s with ppu := { s.ppu with mode := .hblank } }).ppu.mode = .hblank := by
      unfold renderLine; split <;> exact ⟨rfl, rfl⟩
    unfold enterHblank
    rw [requestLcdIf_ppu, e.1, e.2]
    dsimp only
    exact Nat.lt_succ_self _
  · have hc : 456 ≤ s.ppu.lineCycle := hc
    have l := line (nextLine s) (by show s.ppu.lineCycle - 456 + 456 = _; omega)
    split
    · unfold enterVblank
      rw [requestLcdIf_ppu]
      exact Nat.lt_of_le_of_lt (Nat.le_add_right _ 2) l
    · unfold enterSearch
      rw [requestLcdIf_ppu]
      exact l
  · have hc : 456 ≤ s.ppu.lineCycle := hc
    have l := line (nextLine s) (by show s.ppu.lineCycle - 456 + 456 = _; omega)
    split
    · unfold enterSearch
      rw [requestLcdIf_ppu]
      exact l
    · rw [show (nextLine s).ppu.mode = .vblank from hm]
      exact Nat.lt_of_le_of_lt (Nat.le_add_right _ 2) l

/-- Any number of transitions that reaches the bound ends in the same state, in which no transition is due. -/
theorem transitions_enough (s : State) (m n : Nat) (hm : transitionsLeft s ≤ m) (hn : transitionsLeft s ≤ n) :
    transitions m s = transitions n s := by
  induction m generalizing s n with
  | zero =>
    cases n with
    | zero => rfl
    | succ n =>
      unfold transitions
      split
      · rfl
      · rename_i t h
        have := transition_left s t h
        omega
  | succ m ih =>
    cases n with
    | zero =>
      unfold transitions
      split
      · rfl
      · rename_i t h
        have := transition_left s t h
        omega
    | succ n =>
      unfold transitions
      split
      · rfl
      · rename_i t h
        have := transition_left s t h
        exact ih t n (by omega) (by omega)

/-- The bound `PpuStep` takes reaches. -/
theorem transitionsLeft_le (s : State) : transitionsLeft s ≤ transitionBound s := by
  unfold transitionsLeft transitionBound
  show _ ≤ 3 * (s.ppu.lineCycle / 456 + 1)
  cases s.ppu.mode <;> dsimp only <;> omega

/-- Sprites whose pixels are all suppressed or absent are passed over (R496). -/
theorem firstSpritePixel_skip (s : State) (x : Nat) (bg : BitVec 2) (before after : List Nat)
    (h : ∀ j ∈ before, ∀ cj, spriteIndexAt s x j = some cj → spriteSuppressed (s.oam (4 * j + 3)) cj bg = true) :
    firstSpritePixel s x bg (before ++ after) = firstSpritePixel s x bg after := by
  induction before with
  | nil => rfl
  | cons i t ih =>
    rw [← ih fun j hj => h j (List.mem_cons_of_mem _ hj), List.cons_append, firstSpritePixel.eq_2]
    cases hs : spriteIndexAt s x i with
    | none => rfl
    | some ci => exact if_pos (h i List.mem_cons_self ci hs)

end Sys2Proof.Machine
end

