-- ==== Sys2Proof/Laws/Operations.lean ====
section
/-! SUPPORT. What the charged CPU primitives do (00_scope.md R12), each in one equation over the bus and the clock: the
state outside the CPU, and the register file beside it. -/

namespace Sys2Proof.Machine

section

variable (a : Word) (v : Byte) (w : Word) (s : State) (c : Cpu)

/-- Two states with the same register file hold the same registers. -/
theorem State.reg_congr {s t : State} (h : t.cpu = s.cpu) (q : Reg8) : t.reg q = s.reg q := by
  unfold State.reg
  rw [h]

/-- `CpuRead`: the value and the state after it. -/
theorem cpuRead_eq : cpuRead a s = (readValue a s, afterRead a s) := rfl

/-- `CpuWrite`. -/
theorem cpuWrite_eq : cpuWrite a v s = memWrite a v (tick 4 s) := rfl

/-- `Internal`. -/
theorem internal_eq : internal s = tick 4 s := rfl

@[simp] theorem afterRead_cpu : (afterRead a s).cpu = s.cpu := by simp [afterRead]
@[simp] theorem afterRead_ppu : (afterRead a s).ppu = s.ppu := by simp [afterRead]
@[simp] theorem afterRead_dma : (afterRead a s).dma = s.dma := by simp [afterRead]
@[simp] theorem afterRead_mem : (afterRead a s).mem = s.mem := by simp [afterRead]
@[simp] theorem afterRead_bootActive : (afterRead a s).bootActive = s.bootActive := by simp [afterRead]
@[simp] theorem afterRead_stopped : (afterRead a s).stopped = s.stopped := by simp [afterRead]
@[simp] theorem afterRead_bootImage : (afterRead a s).bootImage = s.bootImage := by simp [afterRead]
@[simp] theorem afterRead_inputs : (afterRead a s).inputs = s.inputs := by simp [afterRead]
@[simp] theorem afterRead_irq_ime : (afterRead a s).irq.ime = s.irq.ime := by simp [afterRead]
@[simp] theorem afterRead_irq_enabled : (afterRead a s).irq.enabled = s.irq.enabled := by simp [afterRead]
@[simp] theorem afterRead_timer_divOrigin : (afterRead a s).timer.divOrigin = s.timer.divOrigin := by simp [afterRead]
@[simp] theorem afterRead_timer_cycles : (afterRead a s).timer.cycles = s.timer.cycles + 4 := by simp [afterRead]

/-- A read does not read the CPU's registers. -/
@[simp] theorem readValue_withCpu : readValue a { s with cpu := c } = readValue a s := by
  unfold readValue
  rw [tick_withCpu, memPeek_withCpu]

theorem afterRead_withCpu : afterRead a { s with cpu := c } = { afterRead a s with cpu := c } := by
  unfold afterRead
  rw [tick_withCpu, memReadEffect_withCpu]

/-- A state is itself with its own CPU. -/
theorem State.withCpu_self : { s with cpu := s.cpu } = s := rfl

/-- A state with another CPU agrees with it outside the CPU. -/
theorem OutsideCpu.withCpu (u : State) : OutsideCpu u { u with cpu := c } := rfl

theorem OutsideCpu.refl (u : State) : OutsideCpu u u := rfl

/-- Outside the CPU, the bytes of memory agree. -/
theorem OutsideCpu.mem {u t : State} (h : OutsideCpu u t) : t.mem = u.mem := by
  unfold OutsideCpu at h
  rw [← h]

/-- The state after a push, outside the CPU, does not depend on the CPU but for SP. -/
theorem afterPush_withCpu (h : c.sp = s.cpu.sp) :
    afterPush w { s with cpu := c } = { afterPush w s with cpu := c } := by
  unfold afterPush
  simp only [h, tick_withCpu, memWrite_withCpu]

@[simp] theorem afterPush_cpu : (afterPush w s).cpu = s.cpu := by simp [afterPush]

/-- `Push16`. -/
theorem push16_eq : push16 w s = { afterPush w s with cpu := { s.cpu with sp := s.cpu.sp - 2#16 } } := by
  unfold push16 afterPush
  simp only [cpuWrite_eq, State.setSp, tick_withCpu, memWrite_withCpu]
  have h : s.cpu.sp - 1#16 - 1#16 = s.cpu.sp - 2#16 := by bv_omega
  rw [h]

/-- A push writes two bytes and no other. -/
theorem afterPush_bytes : BytesKeptBut2 (s.cpu.sp - 1#16) (s.cpu.sp - 2#16) s (afterPush w s) := by
  intro k h1 h2
  unfold afterPush
  rw [memWrite_mem_other _ _ _ _ h2, tick_mem, memWrite_mem_other _ _ _ _ h1, tick_mem]

@[simp] theorem afterPop_cpu : (afterPop s).cpu = s.cpu := by simp [afterPop]
@[simp] theorem afterPop_mem : (afterPop s).mem = s.mem := by simp [afterPop]

/-- `Pop16`. -/
theorem pop16_eq : pop16 s = (popValue s, { afterPop s with cpu := { s.cpu with sp := s.cpu.sp + 2#16 } }) := by
  unfold pop16 popValue afterPop
  simp only [cpuRead_eq, State.setSp, afterRead_cpu, readValue_withCpu, afterRead_withCpu]
  have h : s.cpu.sp + 1#16 + 1#16 = s.cpu.sp + 2#16 := by bv_omega
  rw [h]

/-- `Fetch8`. -/
theorem fetch8_eq : fetch8 s =
    (readValue s.cpu.pc s, { afterRead s.cpu.pc s with cpu := { s.cpu with pc := s.cpu.pc + 1#16 } }) := by
  unfold fetch8
  simp only [cpuRead_eq, State.setPc, afterRead_cpu]

/-- The return of `RET` (45_control.md R328). -/
theorem returnFromCall_eq : returnFromCall s =
    { tick 4 (afterPop s) with cpu := { s.cpu with pc := popValue s, sp := s.cpu.sp + 2#16 } } := by
  unfold returnFromCall
  simp only [pop16_eq, internal_eq, tick_withCpu, State.setPc]

/-- The jump of `JP` (45_control.md R321). -/
theorem jumpTo_eq : jumpTo w s = { tick 4 s with cpu := { s.cpu with pc := w } } := by
  unfold jumpTo
  simp only [internal_eq, State.setPc, tick_cpu]

/-- The jump of `JR` (45_control.md R324). -/
theorem jumpBy_eq : jumpBy v s = { tick 4 s with cpu := { s.cpu with pc := s.cpu.pc + sext16 v } } := by
  unfold jumpBy
  simp only [internal_eq, State.setPc, tick_cpu]

/-- The call of `CALL` (45_control.md R326). -/
theorem callTo_eq : callTo w s =
    { afterPush s.cpu.pc (tick 4 s) with cpu := { s.cpu with pc := w, sp := s.cpu.sp - 2#16 } } := by
  unfold callTo
  simp only [internal_eq, push16_eq, State.setPc, tick_cpu]

/-- Reading a memory operand (30_encoding.md R166). -/
theorem rd_memory (o : Operand) (h : operandAddress o s = some a) :
    rd o s = (readValue a s, operandAfter o (afterRead a s)) := by
  unfold rd
  rw [h]
  rfl

/-- Writing a memory operand (30_encoding.md R166). -/
theorem wr_memory (o : Operand) (h : operandAddress o s = some a) :
    wr o v s = operandAfter o (memWrite a v (tick 4 s)) := by
  unfold wr
  rw [h]
  rfl

@[simp] theorem rd_reg (r : Reg8) : rd (.reg r) s = (s.reg r, s) := rfl
@[simp] theorem rd_imm : rd (.imm v) s = (v, s) := rfl
@[simp] theorem rd_indHl : rd .indHl s = (readValue s.hl s, afterRead s.hl s) := rfl
theorem rd_indHlInc : rd .indHlInc s = (readValue s.hl s, (afterRead s.hl s).setHl (s.hl + 1#16)) := by
  simp [rd_memory s.hl s .indHlInc rfl, operandAfter, State.hl]
theorem rd_indHlDec : rd .indHlDec s = (readValue s.hl s, (afterRead s.hl s).setHl (s.hl - 1#16)) := by
  simp [rd_memory s.hl s .indHlDec rfl, operandAfter, State.hl]
theorem wr_indHlInc : wr .indHlInc v s = (memWrite s.hl v (tick 4 s)).setHl (s.hl + 1#16) := by
  simp [wr_memory s.hl v s .indHlInc rfl, operandAfter, State.hl]
theorem wr_indHlDec : wr .indHlDec v s = (memWrite s.hl v (tick 4 s)).setHl (s.hl - 1#16) := by
  simp [wr_memory s.hl v s .indHlDec rfl, operandAfter, State.hl]
@[simp] theorem wr_reg (r : Reg8) : wr (.reg r) v s = s.setReg r v := rfl
@[simp] theorem wr_indHl : wr .indHl v s = memWrite s.hl v (tick 4 s) := rfl

end

end Sys2Proof.Machine
end

