-- ==== Sys2Proof/Laws/Instructions.lean ====
section
/-! SUPPORT. `exec` of a family of instructions by its fields is the family's shared operation: the one place where the
512 arms are looked at, a family at a time. -/

namespace Sys2Proof.Machine

section

variable (p : Pair) (k : StkPair) (cc : Cond) (op : AluOp) (r q : Reg8) (n : Byte) (w : Word) (s : State)

theorem exec_mkLdRR : exec (.mkLdRR r q) s = ld (.reg r) (.reg q) s := by cases r <;> cases q <;> rfl
theorem exec_mkLdImm : exec (.mkLdImm r n) s = ld (.reg r) (.imm n) s := by cases r <;> rfl
theorem exec_mkLdM : exec (.mkLdM r) s = ld (.reg r) .indHl s := by cases r <;> rfl
theorem exec_mkLdMR : exec (.mkLdMR r) s = ld .indHl (.reg r) s := by cases r <;> rfl

theorem exec_mkLdPair : exec (.mkLdPair p w) s = ldPair p w s := by cases p <;> rfl
theorem exec_mkPush : exec (.mkPush k) s = push k s := by cases k <;> rfl
theorem exec_mkPop : exec (.mkPop k) s = pop k s := by cases k <;> rfl

theorem exec_mkAluR : exec (.mkAluR op r) s = alu op (.reg r) s := by cases op <;> cases r <;> rfl
theorem exec_mkAluM : exec (.mkAluM op) s = alu op .indHl s := by cases op <;> rfl
theorem exec_mkAluImm : exec (.mkAluImm op n) s = alu op (.imm n) s := by cases op <;> rfl
theorem exec_mkInc : exec (.mkInc r) s = inc8 (.reg r) s := by cases r <;> rfl
theorem exec_mkDec : exec (.mkDec r) s = dec8 (.reg r) s := by cases r <;> rfl

theorem exec_mkAddHl : exec (.mkAddHl p) s = addHl p s := by cases p <;> rfl
theorem exec_mkIncPair : exec (.mkIncPair p) s = incPair p s := by cases p <;> rfl
theorem exec_mkDecPair : exec (.mkDecPair p) s = decPair p s := by cases p <;> rfl

theorem exec_mkJrCc : exec (.mkJrCc cc n) s = jrCc cc n s := by cases cc <;> rfl
theorem exec_mkJpCc : exec (.mkJpCc cc w) s = jpCc cc w s := by cases cc <;> rfl
theorem exec_mkCallCc : exec (.mkCallCc cc w) s = callCc cc w s := by cases cc <;> rfl
theorem exec_mkRetCc : exec (.mkRetCc cc) s = retCc cc s := by cases cc <;> rfl

end

/-- A statement about each of eight numbers. -/
theorem Fin.forall_eight {P : Fin 8 → Prop} (h0 : P 0) (h1 : P 1) (h2 : P 2) (h3 : P 3) (h4 : P 4) (h5 : P 5)
    (h6 : P 6) (h7 : P 7) (b : Fin 8) : P b := by
  match b with
  | 0 => exact h0
  | 1 => exact h1
  | 2 => exact h2
  | 3 => exact h3
  | 4 => exact h4
  | 5 => exact h5
  | 6 => exact h6
  | 7 => exact h7

section

variable (o : RotOp) (b : Fin 8) (r : Reg8) (s : State)

theorem exec_mkRst : exec (.mkRst b) s = rst b s :=
  Fin.forall_eight (P := fun b => exec (.mkRst b) s = rst b s) rfl rfl rfl rfl rfl rfl rfl rfl b

theorem exec_mkRotR : exec (.mkRotR o r) s = rotate o (.reg r) s := by cases o <;> cases r <;> rfl
theorem exec_mkRotM : exec (.mkRotM o) s = rotate o .indHl s := by cases o <;> rfl

theorem exec_mkBitR : exec (.mkBitR b r) s = bitTest b (.reg r) s := by
  cases r <;> revert b <;> exact Fin.forall_eight rfl rfl rfl rfl rfl rfl rfl rfl
theorem exec_mkBitM : exec (.mkBitM b) s = bitTest b .indHl s := by
  revert b; exact Fin.forall_eight rfl rfl rfl rfl rfl rfl rfl rfl
theorem exec_mkResR : exec (.mkResR b r) s = bitReset b (.reg r) s := by
  cases r <;> revert b <;> exact Fin.forall_eight rfl rfl rfl rfl rfl rfl rfl rfl
theorem exec_mkResM : exec (.mkResM b) s = bitReset b .indHl s := by
  revert b; exact Fin.forall_eight rfl rfl rfl rfl rfl rfl rfl rfl
theorem exec_mkSetR : exec (.mkSetR b r) s = bitSet b (.reg r) s := by
  cases r <;> revert b <;> exact Fin.forall_eight rfl rfl rfl rfl rfl rfl rfl rfl
theorem exec_mkSetM : exec (.mkSetM b) s = bitSet b .indHl s := by
  revert b; exact Fin.forall_eight rfl rfl rfl rfl rfl rfl rfl rfl

end

/-- Every instruction is one of the shared operations: a statement about each of them is a statement about every `exec`.
Only `EI`, `RETI`, `STOP` and the unassigned bytes are told apart by name. -/
theorem exec_cases (P : Instr → Result → Prop) (s : State)
    (hld : ∀ i d q, P i (ld d q s)) (hldPair : ∀ i p w, P i (ldPair p w s)) (hldA16Sp : ∀ i w, P i (ldA16Sp w s))
    (hldSpHl : ∀ i, P i (ldSpHl s)) (hldHlSp : ∀ i e, P i (ldHlSp e s)) (hpush : ∀ i k, P i (push k s))
    (hpop : ∀ i k, P i (pop k s)) (halu : ∀ i op o, P i (alu op o s)) (hinc : ∀ i o, P i (inc8 o s))
    (hdec : ∀ i o, P i (dec8 o s)) (hdaa : ∀ i, P i (daa s)) (hcpl : ∀ i, P i (cpl s)) (hscf : ∀ i, P i (scf s))
    (hccf : ∀ i, P i (ccf s)) (haddHl : ∀ i p, P i (addHl p s)) (hincPair : ∀ i p, P i (incPair p s))
    (hdecPair : ∀ i p, P i (decPair p s)) (haddSp : ∀ i e, P i (addSp e s)) (hrotA : ∀ i op, P i (rotateA op s))
    (hjp : ∀ i w, P i (jp w s)) (hjpCc : ∀ i cc w, P i (jpCc cc w s)) (hjpHl : ∀ i, P i (jpHl s))
    (hjr : ∀ i e, P i (jr e s)) (hjrCc : ∀ i cc e, P i (jrCc cc e s)) (hcall : ∀ i w, P i (call w s))
    (hcallCc : ∀ i cc w, P i (callCc cc w s)) (hret : ∀ i, P i (ret s)) (hretCc : ∀ i cc, P i (retCc cc s))
    (hreti : P .reti (reti s)) (hrst : ∀ i y, P i (rst y s)) (hrot : ∀ i op o, P i (rotate op o s))
    (hbit : ∀ i b o, P i (bitTest b o s)) (hres : ∀ i b o, P i (bitReset b o s)) (hset : ∀ i b o, P i (bitSet b o s))
    (hnop : ∀ i, P i (nop s)) (hhalt : ∀ i, P i (halt s)) (hstop : P .stop (stop s)) (hdi : ∀ i, P i (di s))
    (hei : P .ei (ei s)) (hbad : ∀ i op, (i, op) ∈ unassignedRows → P i (unassigned op s))
    (hext : ∀ i op2, P i (extended op2 s)) (i : Instr) : P i (exec i s) :=
  match i with
  | .nop => hnop _
  | .ldBcD16 _ | .ldDeD16 _ | .ldHlD16 _ | .ldSpD16 _ => hldPair _ _ _
  | .ldMBcA | .ldBD8 _ | .ldAMBc | .ldCD8 _ | .ldMDeA | .ldDD8 _ | .ldAMDe | .ldED8 _ | .ldMHlIncA | .ldHD8 _
  | .ldAMHlInc | .ldLD8 _ | .ldMHlDecA | .ldMHlD8 _ | .ldAMHlDec | .ldAD8 _ | .ldBB | .ldBC | .ldBD | .ldBE
  | .ldBH | .ldBL | .ldBMHl | .ldBA | .ldCB | .ldCC | .ldCD | .ldCE | .ldCH | .ldCL | .ldCMHl | .ldCA | .ldDB
  | .ldDC | .ldDD | .ldDE | .ldDH | .ldDL | .ldDMHl | .ldDA | .ldEB | .ldEC | .ldED | .ldEE | .ldEH | .ldEL
  | .ldEMHl | .ldEA | .ldHB | .ldHC | .ldHD | .ldHE | .ldHH | .ldHL | .ldHMHl | .ldHA | .ldLB | .ldLC | .ldLD
  | .ldLE | .ldLH | .ldLL | .ldLMHl | .ldLA | .ldMHlB | .ldMHlC | .ldMHlD | .ldMHlE | .ldMHlH | .ldMHlL
  | .ldMHlA | .ldAB | .ldAC | .ldAD | .ldAE | .ldAH | .ldAL | .ldAMHl | .ldAA | .ldhMA8A _ | .ldhMCA
  | .ldMA16A _ | .ldhAMA8 _ | .ldhAMC | .ldAMA16 _ => hld _ _ _
  | .incBc | .incDe | .incHl | .incSp => hincPair _ _
  | .incB | .incC | .incD | .incE | .incH | .incL | .incMHl | .incA => hinc _ _
  | .decB | .decC | .decD | .decE | .decH | .decL | .decMHl | .decA => hdec _ _
  | .rlca | .rrca | .rla | .rra => hrotA _ _
  | .ldMA16Sp _ => hldA16Sp _ _
  | .addHlBc | .addHlDe | .addHlHl | .addHlSp => haddHl _ _
  | .decBc | .decDe | .decHl | .decSp => hdecPair _ _
  | .stop => hstop
  | .jrR8 _ => hjr _ _
  | .jrNzR8 _ | .jrZR8 _ | .jrNcR8 _ | .jrCR8 _ => hjrCc _ _ _
  | .daa => hdaa _
  | .cpl => hcpl _
  | .scf => hscf _
  | .ccf => hccf _
  | .halt => hhalt _
  | .addAB | .addAC | .addAD | .addAE | .addAH | .addAL | .addAMHl | .addAA | .adcAB | .adcAC | .adcAD | .adcAE
  | .adcAH | .adcAL | .adcAMHl | .adcAA | .subB | .subC | .subD | .subE | .subH | .subL | .subMHl | .subA
  | .sbcAB | .sbcAC | .sbcAD | .sbcAE | .sbcAH | .sbcAL | .sbcAMHl | .sbcAA | .andB | .andC | .andD | .andE
  | .andH | .andL | .andMHl | .andA | .xorB | .xorC | .xorD | .xorE | .xorH | .xorL | .xorMHl | .xorA | .orB
  | .orC | .orD | .orE | .orH | .orL | .orMHl | .orA | .cpB | .cpC | .cpD | .cpE | .cpH | .cpL | .cpMHl | .cpA
  | .addAD8 _ | .adcAD8 _ | .subD8 _ | .sbcAD8 _ | .andD8 _ | .xorD8 _ | .orD8 _ | .cpD8 _ => halu _ _ _
  | .retNz | .retZ | .retNc | .retC => hretCc _ _
  | .popBc | .popDe | .popHl | .popAf => hpop _ _
  | .jpNzA16 _ | .jpZA16 _ | .jpNcA16 _ | .jpCA16 _ => hjpCc _ _ _
  | .jpA16 _ => hjp _ _
  | .callNzA16 _ | .callZA16 _ | .callNcA16 _ | .callCA16 _ => hcallCc _ _ _
  | .pushBc | .pushDe | .pushHl | .pushAf => hpush _ _
  | .rst00 | .rst08 | .rst10 | .rst18 | .rst20 | .rst28 | .rst30 | .rst38 => hrst _ _
  | .ret => hret _
  | .prefixCb _ => hext _ _
  | .callA16 _ => hcall _ _
  | .illegalD3 | .illegalDB | .illegalDD | .illegalE3 | .illegalE4 | .illegalEB | .illegalEC | .illegalED
  | .illegalF4 | .illegalFC | .illegalFD => hbad _ _ (by decide)
  | .reti => hreti
  | .addSpR8 _ => haddSp _ _
  | .jpHl => hjpHl _
  | .di => hdi _
  | .ldHlSpR8 _ => hldHlSp _ _
  | .ldSpHl => hldSpHl _
  | .ei => hei
  | .rlcB | .rlcC | .rlcD | .rlcE | .rlcH | .rlcL | .rlcMHl | .rlcA | .rrcB | .rrcC | .rrcD | .rrcE | .rrcH
  | .rrcL | .rrcMHl | .rrcA | .rlB | .rlC | .rlD | .rlE | .rlH | .rlL | .rlMHl | .rlA | .rrB | .rrC | .rrD
  | .rrE | .rrH | .rrL | .rrMHl | .rrA | .slaB | .slaC | .slaD | .slaE | .slaH | .slaL | .slaMHl | .slaA
  | .sraB | .sraC | .sraD | .sraE | .sraH | .sraL | .sraMHl | .sraA | .swapB | .swapC | .swapD | .swapE
  | .swapH | .swapL | .swapMHl | .swapA | .srlB | .srlC | .srlD | .srlE | .srlH | .srlL | .srlMHl | .srlA => hrot _ _ _
  | .bit0B | .bit0C | .bit0D | .bit0E | .bit0H | .bit0L | .bit0MHl | .bit0A | .bit1B | .bit1C | .bit1D | .bit1E
  | .bit1H | .bit1L | .bit1MHl | .bit1A | .bit2B | .bit2C | .bit2D | .bit2E | .bit2H | .bit2L | .bit2MHl
  | .bit2A | .bit3B | .bit3C | .bit3D | .bit3E | .bit3H | .bit3L | .bit3MHl | .bit3A | .bit4B | .bit4C | .bit4D
  | .bit4E | .bit4H | .bit4L | .bit4MHl | .bit4A | .bit5B | .bit5C | .bit5D | .bit5E | .bit5H | .bit5L
  | .bit5MHl | .bit5A | .bit6B | .bit6C | .bit6D | .bit6E | .bit6H | .bit6L | .bit6MHl | .bit6A | .bit7B
  | .bit7C | .bit7D | .bit7E | .bit7H | .bit7L | .bit7MHl | .bit7A => hbit _ _ _
  | .res0B | .res0C | .res0D | .res0E | .res0H | .res0L | .res0MHl | .res0A | .res1B | .res1C | .res1D | .res1E
  | .res1H | .res1L | .res1MHl | .res1A | .res2B | .res2C | .res2D | .res2E | .res2H | .res2L | .res2MHl
  | .res2A | .res3B | .res3C | .res3D | .res3E | .res3H | .res3L | .res3MHl | .res3A | .res4B | .res4C | .res4D
  | .res4E | .res4H | .res4L | .res4MHl | .res4A | .res5B | .res5C | .res5D | .res5E | .res5H | .res5L
  | .res5MHl | .res5A | .res6B | .res6C | .res6D | .res6E | .res6H | .res6L | .res6MHl | .res6A | .res7B
  | .res7C | .res7D | .res7E | .res7H | .res7L | .res7MHl | .res7A => hres _ _ _
  | .set0B | .set0C | .set0D | .set0E | .set0H | .set0L | .set0MHl | .set0A | .set1B | .set1C | .set1D | .set1E
  | .set1H | .set1L | .set1MHl | .set1A | .set2B | .set2C | .set2D | .set2E | .set2H | .set2L | .set2MHl
  | .set2A | .set3B | .set3C | .set3D | .set3E | .set3H | .set3L | .set3MHl | .set3A | .set4B | .set4C | .set4D
  | .set4E | .set4H | .set4L | .set4MHl | .set4A | .set5B | .set5C | .set5D | .set5E | .set5H | .set5L
  | .set5MHl | .set5A | .set6B | .set6C | .set6D | .set6E | .set6H | .set6L | .set6MHl | .set6A | .set7B
  | .set7C | .set7D | .set7E | .set7H | .set7L | .set7MHl | .set7A => hset _ _ _

end Sys2Proof.Machine
end

