-- ==== Sys2Proof/Laws/Interrupt.lean ====
section
/-! SUPPORT. Which interrupt the dispatch finds, and what an entry leaves (60_exceptions.md R414 to R417). -/

namespace Sys2Proof.Machine

section

variable (s : State) (k : IrqKind)

/-- A kind is pending when its bit of the requested and enabled vectors is set. -/
theorem pending_eq : s.pending k = (s.irq.requested &&& s.irq.enabled).getLsbD (cfg.irqBit k) := by
  rw [BitVec.getLsbD_and]
  rfl

/-- Nothing requested and enabled: nothing found. -/
theorem firstPending_none (h : s.irq.requested &&& s.irq.enabled = 0#5) : s.firstPending = none := by
  unfold State.firstPending
  rw [List.find?_eq_none]
  intro k _
  rw [pending_eq, h]
  simp

/-- The kind found is the one of lowest bit number (R410, R414). -/
theorem firstPending_some (h : (s.irq.requested &&& s.irq.enabled).getLsbD (cfg.irqBit k) = true)
    (hl : ∀ j, j < cfg.irqBit k → (s.irq.requested &&& s.irq.enabled).getLsbD j = false) :
    s.firstPending = some k := by
  unfold State.firstPending
  have hp : s.pending = fun k => (s.irq.requested &&& s.irq.enabled).getLsbD (cfg.irqBit k) :=
    funext fun k => pending_eq s k
  rw [hp]
  generalize s.irq.requested &&& s.irq.enabled = g at *
  have b0 : cfg.irqBit .vblank = 0 := rfl
  have b1 : cfg.irqBit .lcdStatus = 1 := rfl
  have b2 : cfg.irqBit .timer = 2 := rfl
  have b3 : cfg.irqBit .serial = 3 := rfl
  have b4 : cfg.irqBit .joypad = 4 := rfl
  cases k <;> simp only [b0, b1, b2, b3, b4] at h hl <;>
    simp only [IrqKind.priority, List.find?_cons, b0, b1, b2, b3, b4, h]
  · rw [hl 0 (by decide)]
  · rw [hl 0 (by decide), hl 1 (by decide)]
  · rw [hl 0 (by decide), hl 1 (by decide), hl 2 (by decide)]
  · rw [hl 0 (by decide), hl 1 (by decide), hl 2 (by decide), hl 3 (by decide)]

/-- An entry: 8 cycles, PC pushed, 4 cycles, PC at the vector (R416). -/
theorem enterInterrupt_eq : enterInterrupt k s =
    { tick 4 (afterPush s.cpu.pc (tick 8 s)) with
      cpu := { s.cpu with sp := s.cpu.sp - 2#16, pc := cfg.irqVector k } } := by
  unfold enterInterrupt
  have e1 : cfg.irqEntryBefore = 8 := rfl
  have e2 : cfg.irqEntryAfter = 4 := rfl
  simp only [push16_eq, State.setPc, e1, e2, tick_withCpu, tick_cpu]

/-- What the dispatch can do: nothing, wake the CPU, or redirect it (R414). -/
theorem dispatch_cases :
    dispatch s = s ∨
    (∃ k, s.firstPending = some k ∧ s.irq.ime = false ∧ dispatch s = acknowledge k s) ∨
    (∃ k, s.firstPending = some k ∧ s.irq.ime = true ∧ dispatch s = enterInterrupt k (acknowledge k s)) := by
  unfold dispatch
  split
  · exact .inl rfl
  · cases s.firstPending with
    | none => exact .inl rfl
    | some k =>
      cases h : s.irq.ime with
      | false => exact .inr (.inl ⟨k, rfl, rfl, rfl⟩)
      | true => exact .inr (.inr ⟨k, rfl, rfl, rfl⟩)

end

end Sys2Proof.Machine
end

