-- ==== Sys2Proof/Laws/Quiet.lean ====
section
/-! SUPPORT. What the CPU side can never do, whatever it executes: one relation between the state before and after, which
every primitive satisfies and which composes, so that no proof looks at 512 arms again. -/

namespace Sys2Proof.Machine

/-- From `s` to `t` nothing happened that only the dispatch, the picture generator, the host or a fatal condition does. -/
structure Quiet (s t : State) : Prop where
  ime : t.irq.ime = s.irq.ime
  stopped : t.stopped = s.stopped
  bootActive : t.bootActive = true → s.bootActive = true
  bootImage : t.bootImage = s.bootImage
  inputs : t.inputs = s.inputs
  ly : t.ppu.ly = s.ppu.ly
  mode : t.ppu.mode = s.ppu.mode
  lineCycle : t.ppu.lineCycle = s.ppu.lineCycle
  lycMatch : t.ppu.lycMatch = s.ppu.lycMatch
  visible : t.ppu.visible = s.ppu.visible
  fbDraw : t.ppu.fbDraw = s.ppu.fbDraw
  fbReady : t.ppu.fbReady = s.ppu.fbReady
  frameReady : t.ppu.frameReady = s.ppu.frameReady
  seen : t.ppu.seen = s.ppu.seen
  dma : t.dma = s.dma ∨ ∃ v, t.dma = dmaStart v
  clock : s.timer.cycles ≤ t.timer.cycles
  whole : t.timer.cycles % 4 = s.timer.cycles % 4
  origin : s.timer.divOrigin ≤ s.timer.cycles → t.timer.divOrigin ≤ t.timer.cycles
  canonical : s.mem.wf = true → t.mem.wf = true
  keys : (∀ e ∈ s.mem, bufferAddress e.1 = true) → ∀ e ∈ t.mem, bufferAddress e.1 = true
  rom : s.ext.rom.wf = true → t.ext.rom.wf = true

theorem Quiet.refl (s : State) : Quiet s s :=
  ⟨rfl, rfl, id, rfl, rfl, rfl, rfl, rfl, rfl, rfl, rfl, rfl, rfl, rfl, .inl rfl, Nat.le_refl _, rfl, id, id, id, id⟩

theorem Quiet.trans {s t u : State} (h : Quiet s t) (k : Quiet t u) : Quiet s u where
  ime := k.ime.trans h.ime
  stopped := k.stopped.trans h.stopped
  bootActive := fun e => h.bootActive (k.bootActive e)
  bootImage := k.bootImage.trans h.bootImage
  inputs := k.inputs.trans h.inputs
  ly := k.ly.trans h.ly
  mode := k.mode.trans h.mode
  lineCycle := k.lineCycle.trans h.lineCycle
  lycMatch := k.lycMatch.trans h.lycMatch
  visible := k.visible.trans h.visible
  fbDraw := k.fbDraw.trans h.fbDraw
  fbReady := k.fbReady.trans h.fbReady
  frameReady := k.frameReady.trans h.frameReady
  seen := k.seen.trans h.seen
  dma := by
    rcases k.dma with e | e
    · rw [e]
      exact h.dma
    · exact .inr e
  clock := Nat.le_trans h.clock k.clock
  whole := k.whole.trans h.whole
  origin := fun e => k.origin (h.origin e)
  canonical := fun e => k.canonical (h.canonical e)
  keys := fun e => k.keys (h.keys e)
  rom := fun e => k.rom (h.rom e)

/-- A change of the CPU's registers is quiet. -/
theorem Quiet.withCpu (s : State) (c : Cpu) : Quiet s { s with cpu := c } :=
  ⟨rfl, rfl, id, rfl, rfl, rfl, rfl, rfl, rfl, rfl, rfl, rfl, rfl, rfl, .inl rfl, Nat.le_refl _, rfl, id, id, id, id⟩

/-- Machine cycles are quiet. -/
theorem Quiet.tick (n : Nat) (s : State) (h : n % 4 = 0) : Quiet s (tick n s) where
  ime := by simp
  stopped := by simp
  bootActive := by simp
  bootImage := by simp
  inputs := by simp
  ly := by simp
  mode := by simp
  lineCycle := by simp
  lycMatch := by simp
  visible := by simp
  fbDraw := by simp
  fbReady := by simp
  frameReady := by simp
  seen := by simp
  dma := by simp
  clock := by simp
  whole := by simp; omega
  origin := by simp; omega
  canonical := by simp
  keys := by simp
  rom := by simp

/-- A collaborator that has seen an access holds the same image. -/
@[simp] theorem ExtDevice.rom_note (x : ExtDevice) (e : ExtAccess) : (x.note e).rom = x.rom := by cases x <;> rfl

/-- A bus read is quiet. -/
theorem Quiet.read (a : Word) (s : State) : Quiet s (memReadEffect a s) := by
  rcases memReadEffect_cases a s with h | ⟨_, h⟩ <;> rw [h]
  · exact Quiet.refl s
  · exact ⟨rfl, rfl, id, rfl, rfl, rfl, rfl, rfl, rfl, rfl, rfl, rfl, rfl, rfl, .inl rfl, Nat.le_refl _, rfl, id, id, id,
      fun e => by simpa using e⟩

/-- What a register write does to the DMA engine: nothing, or a start (61_devices.md R501). -/
theorem ioWrite_dma (r : IoReg) (v : Byte) (s : State) : (ioWrite r v s).dma = s.dma ∨ (ioWrite r v s).dma = dmaStart v := by
  by_cases hv : v = 0#8 <;> cases r <;> first | exact .inl rfl | exact .inr rfl | exact .inl (by simp [ioWrite, hv])

/-- What a register write does to the overlay: nothing, or it removes it (20_memory.md R133). -/
theorem ioWrite_bootActive (r : IoReg) (v : Byte) (s : State) :
    (ioWrite r v s).bootActive = true → s.bootActive = true := by
  by_cases hv : v = 0#8 <;> cases r <;> first | exact id | simp [ioWrite, hv]

/-- What a register write does to the divider's origin: nothing, or it moves it to now (61_devices.md R466). -/
theorem ioWrite_divOrigin (r : IoReg) (v : Byte) (s : State) :
    (ioWrite r v s).timer.divOrigin = s.timer.divOrigin ∨ (ioWrite r v s).timer.divOrigin = s.timer.cycles := by
  by_cases hv : v = 0#8 <;> cases r <;>
    first | exact .inl rfl | exact .inr rfl | exact .inl (by simp [ioWrite, hv])

/-- A bus write is quiet. -/
theorem Quiet.write (a : Word) (v : Byte) (s : State) : Quiet s (memWrite a v s) := by
  rcases memWrite_cases a v s with ⟨_, h⟩ | ⟨_, h⟩ | ⟨hb, h⟩ | ⟨r, _, _, h⟩ <;> rw [h]
  · exact Quiet.refl s
  · exact ⟨rfl, rfl, id, rfl, rfl, rfl, rfl, rfl, rfl, rfl, rfl, rfl, rfl, rfl, .inl rfl, Nat.le_refl _, rfl, id, id, id,
      fun e => by simpa using e⟩
  · refine ⟨rfl, rfl, id, rfl, rfl, rfl, rfl, rfl, rfl, rfl, rfl, rfl, rfl, rfl, .inl rfl, Nat.le_refl _, rfl, id,
      Sparse.wf_set _ _ _, ?_, id⟩
    intro hk e he
    rcases Sparse.mem_set _ _ _ _ he with h1 | h1
    · rw [h1]
      exact hb
    · exact hk e h1
  · refine ⟨by simp, by simp, ioWrite_bootActive r v s, by simp, by simp, by simp, by simp, by simp, by simp, by simp,
      by simp, by simp, by simp, by simp, ?_, by simp, by simp, ?_, by simp, by simp, by simp⟩
    · rcases ioWrite_dma r v s with h1 | h1
      · exact .inl h1
      · exact .inr ⟨v, h1⟩
    · intro ho
      rcases ioWrite_divOrigin r v s with h1 | h1 <;> simp [h1, ho]

theorem Quiet.afterRead (a : Word) (s : State) : Quiet s (afterRead a s) :=
  (Quiet.tick 4 s (by decide)).trans (Quiet.read a _)

theorem Quiet.afterPush (w : Word) (s : State) : Quiet s (afterPush w s) :=
  ((Quiet.tick 4 s (by decide)).trans (Quiet.write _ _ _)).trans
    ((Quiet.tick 4 _ (by decide)).trans (Quiet.write _ _ _))

theorem Quiet.afterPop (s : State) : Quiet s (afterPop s) := (Quiet.afterRead _ s).trans (Quiet.afterRead _ _)

theorem Quiet.push16 (w : Word) (s : State) : Quiet s (push16 w s) := by
  rw [push16_eq]
  exact (Quiet.afterPush w s).trans (Quiet.withCpu _ _)

theorem Quiet.pop16 (s : State) : Quiet s (pop16 s).2 := by
  rw [pop16_eq]
  exact (Quiet.afterPop s).trans (Quiet.withCpu _ _)

theorem Quiet.internal (s : State) : Quiet s (internal s) := Quiet.tick 4 s (by decide)

theorem Quiet.cpuWrite (a : Word) (v : Byte) (s : State) : Quiet s (cpuWrite a v s) :=
  (Quiet.internal s).trans (Quiet.write a v _)

theorem Quiet.operandAfter (o : Operand) (s : State) : Quiet s (operandAfter o s) := by
  cases o <;> first | exact Quiet.refl s | exact Quiet.withCpu s _

theorem Quiet.rd (o : Operand) (s : State) : Quiet s (rd o s).2 := by
  unfold Machine.rd
  split
  · exact Quiet.refl s
  · exact (Quiet.afterRead _ s).trans (Quiet.operandAfter o _)

theorem Quiet.wr (o : Operand) (v : Byte) (s : State) : Quiet s (wr o v s) := by
  unfold Machine.wr
  split
  · cases o <;> first | exact Quiet.refl s | exact Quiet.withCpu s _
  · exact (Quiet.cpuWrite _ _ s).trans (Quiet.operandAfter o _)

theorem Quiet.setPair (p : Pair) (w : Word) (s : State) : Quiet s (s.setPair p w) := by
  cases p <;> exact Quiet.withCpu s _

theorem Quiet.setStkPair (p : StkPair) (w : Word) (s : State) : Quiet s (s.setStkPair p w) := by
  cases p <;> exact Quiet.withCpu s _

theorem Quiet.jumpTo (w : Word) (s : State) : Quiet s (jumpTo w s) := (Quiet.internal s).trans (Quiet.withCpu _ _)

theorem Quiet.jumpBy (e : Byte) (s : State) : Quiet s (jumpBy e s) := (Quiet.internal s).trans (Quiet.withCpu _ _)

theorem Quiet.callTo (w : Word) (s : State) : Quiet s (callTo w s) :=
  ((Quiet.internal s).trans (Quiet.push16 _ _)).trans (Quiet.withCpu _ _)

theorem Quiet.returnFromCall (s : State) : Quiet s (returnFromCall s) :=
  ((Quiet.pop16 s).trans (Quiet.internal _)).trans (Quiet.withCpu _ _)

theorem Quiet.fetch8 (s : State) : Quiet s (fetch8 s).2 := (Quiet.afterRead _ s).trans (Quiet.withCpu _ _)

theorem Quiet.fetchBytes (n : Nat) (s : State) : Quiet s (fetchBytes n s).2 := by
  induction n generalizing s with
  | zero => exact Quiet.refl s
  | succ n ih => exact (Quiet.fetch8 s).trans (ih _)



/-- The result is a next state, reached quietly, but for the two things the listed instructions do: the global enable set
by `EI` and `RETI`, cleared by `DI`, and the terminal state entered by `STOP` and the unassigned bytes. -/
structure Quietly (i : Instr) (s t : State) : Prop where
  quiet : Quiet s { t with irq := { t.irq with ime := s.irq.ime }, stopped := s.stopped }
  ime : t.irq.ime = true → s.irq.ime = true ∨ i = .ei ∨ i = .reti
  stopped : t.stopped ≠ s.stopped → i = .stop ∨ ∃ op, (i, op) ∈ unassignedRows
  halted : s.cpu.halted = true → t.cpu.halted = true

theorem Quietly.of_quiet (i : Instr) {s t : State} (h : Quiet s t) (hh : t.cpu.halted = s.cpu.halted) :
    Quietly i s t where
  quiet := by rw [← h.ime, ← h.stopped]; exact h
  ime := fun e => .inl (h.ime ▸ e)
  stopped := fun e => absurd h.stopped e
  halted := fun e => hh.trans e

@[simp] theorem operandAfter_halted (o : Operand) (s : State) : (operandAfter o s).cpu.halted = s.cpu.halted := by
  cases o <;> rfl

@[simp] theorem rd_halted (o : Operand) (s : State) : (rd o s).2.cpu.halted = s.cpu.halted := by
  unfold rd
  split
  · rfl
  · simp [cpuRead_eq]

@[simp] theorem wr_halted (o : Operand) (v : Byte) (s : State) : (wr o v s).cpu.halted = s.cpu.halted := by
  unfold wr
  split
  · cases o <;> simp [operandWrite]
  · simp [cpuWrite_eq]

/-- Every instruction completes, and quietly. -/
theorem exec_quietly (i : Instr) (s : State) : ∃ t, exec i s = .next t ∧ Quietly i s t := by
  refine exec_cases (fun i r => ∃ t, r = .next t ∧ Quietly i s t) s ?hld ?hldPair ?hldA16Sp ?hldSpHl ?hldHlSp
    ?hpush ?hpop ?halu ?hinc ?hdec ?hdaa ?hcpl ?hscf ?hccf ?haddHl ?hincPair ?hdecPair ?haddSp ?hrotA ?hjp ?hjpCc
    ?hjpHl ?hjr ?hjrCc ?hcall ?hcallCc ?hret ?hretCc ?hreti ?hrst ?hrot ?hbit ?hres ?hset ?hnop ?hhalt ?hstop ?hdi
    ?hei ?hbad ?hext i
  case hld =>
    exact fun i x y => ⟨_, rfl, .of_quiet i ((Quiet.rd y s).trans (Quiet.wr x _ _)) (by simp)⟩
  case hldPair => exact fun i p w => ⟨_, rfl, .of_quiet i (Quiet.setPair p w s) (by simp)⟩
  case hldA16Sp =>
    exact fun i w => ⟨_, rfl, .of_quiet i ((Quiet.cpuWrite _ _ s).trans (Quiet.cpuWrite _ _ _)) (by simp [cpuWrite_eq])⟩
  case hldSpHl =>
    exact fun i => ⟨_, rfl, .of_quiet i ((Quiet.withCpu s _).trans (Quiet.internal _)) (by simp [internal_eq])⟩
  case hldHlSp =>
    exact fun i e => ⟨_, rfl, .of_quiet i ((Quiet.withCpu s _).trans (Quiet.internal _)) (by simp [internal_eq])⟩
  case hpush =>
    exact fun i k => ⟨_, rfl, .of_quiet i ((Quiet.internal s).trans (Quiet.push16 _ _)) (by simp [push16_eq, internal_eq])⟩
  case hpop =>
    exact fun i k => ⟨_, rfl, .of_quiet i ((Quiet.pop16 s).trans (Quiet.setStkPair _ _ _)) (by simp [pop16_eq])⟩
  case halu => exact fun i op o => ⟨_, rfl, .of_quiet i ((Quiet.rd o s).trans (Quiet.withCpu _ _)) (by simp)⟩
  case hinc =>
    exact fun i o => ⟨_, rfl, .of_quiet i (((Quiet.rd o s).trans (Quiet.wr o _ _)).trans (Quiet.withCpu _ _)) (by simp)⟩
  case hdec =>
    exact fun i o => ⟨_, rfl, .of_quiet i (((Quiet.rd o s).trans (Quiet.wr o _ _)).trans (Quiet.withCpu _ _)) (by simp)⟩
  case hdaa => exact fun i => ⟨_, rfl, .of_quiet i (Quiet.withCpu s _) (by simp)⟩
  case hcpl => exact fun i => ⟨_, rfl, .of_quiet i (Quiet.withCpu s _) (by simp)⟩
  case hscf => exact fun i => ⟨_, rfl, .of_quiet i (Quiet.withCpu s _) (by simp)⟩
  case hccf => exact fun i => ⟨_, rfl, .of_quiet i (Quiet.withCpu s _) (by simp)⟩
  case haddHl =>
    exact fun i p => ⟨_, rfl, .of_quiet i ((Quiet.withCpu s _).trans (Quiet.internal _)) (by simp [internal_eq])⟩
  case hincPair =>
    exact fun i p => ⟨_, rfl, .of_quiet i ((Quiet.setPair p _ s).trans (Quiet.internal _)) (by simp [internal_eq])⟩
  case hdecPair =>
    exact fun i p => ⟨_, rfl, .of_quiet i ((Quiet.setPair p _ s).trans (Quiet.internal _)) (by simp [internal_eq])⟩
  case haddSp =>
    exact fun i e => ⟨_, rfl, .of_quiet i (((Quiet.withCpu s _).trans (Quiet.internal _)).trans (Quiet.internal _))
      (by simp [internal_eq])⟩
  case hrotA => exact fun i op => ⟨_, rfl, .of_quiet i (Quiet.withCpu s _) (by simp)⟩
  case hjp => exact fun i w => ⟨_, rfl, .of_quiet i (Quiet.jumpTo w s) (by simp [jumpTo_eq])⟩
  case hjpCc =>
    intro i cc w
    refine ⟨_, rfl, ?_⟩
    split
    · exact .of_quiet i (Quiet.jumpTo w s) (by simp [jumpTo_eq])
    · exact .of_quiet i (Quiet.refl s) rfl
  case hjpHl => exact fun i => ⟨_, rfl, .of_quiet i (Quiet.withCpu s _) rfl⟩
  case hjr => exact fun i e => ⟨_, rfl, .of_quiet i (Quiet.jumpBy e s) (by simp [jumpBy_eq])⟩
  case hjrCc =>
    intro i cc e
    refine ⟨_, rfl, ?_⟩
    split
    · exact .of_quiet i (Quiet.jumpBy e s) (by simp [jumpBy_eq])
    · exact .of_quiet i (Quiet.refl s) rfl
  case hcall => exact fun i w => ⟨_, rfl, .of_quiet i (Quiet.callTo w s) (by simp [callTo_eq])⟩
  case hcallCc =>
    intro i cc w
    refine ⟨_, rfl, ?_⟩
    split
    · exact .of_quiet i (Quiet.callTo w s) (by simp [callTo_eq])
    · exact .of_quiet i (Quiet.refl s) rfl
  case hret => exact fun i => ⟨_, rfl, .of_quiet i (Quiet.returnFromCall s) (by simp [returnFromCall_eq])⟩
  case hretCc =>
    intro i cc
    refine ⟨_, rfl, ?_⟩
    split
    · exact .of_quiet i ((Quiet.internal s).trans (Quiet.returnFromCall _)) (by simp [returnFromCall_eq, internal_eq])
    · exact .of_quiet i (Quiet.internal s) (by simp [internal_eq])
  case hreti =>
    have h := Quietly.of_quiet .reti (Quiet.returnFromCall s) (by simp [returnFromCall_eq])
    exact ⟨_, rfl, h.quiet, fun _ => .inr (.inr rfl), h.stopped, h.halted⟩
  case hrst => exact fun i y => ⟨_, rfl, .of_quiet i (Quiet.callTo _ s) (by simp [callTo_eq])⟩
  case hrot =>
    exact fun i op o =>
      ⟨_, rfl, .of_quiet i (((Quiet.rd o s).trans (Quiet.wr o _ _)).trans (Quiet.withCpu _ _)) (by simp)⟩
  case hbit => exact fun i b o => ⟨_, rfl, .of_quiet i ((Quiet.rd o s).trans (Quiet.withCpu _ _)) (by simp)⟩
  case hres => exact fun i b o => ⟨_, rfl, .of_quiet i ((Quiet.rd o s).trans (Quiet.wr o _ _)) (by simp)⟩
  case hset => exact fun i b o => ⟨_, rfl, .of_quiet i ((Quiet.rd o s).trans (Quiet.wr o _ _)) (by simp)⟩
  case hnop => exact fun i => ⟨_, rfl, .of_quiet i (Quiet.refl s) rfl⟩
  case hhalt =>
    intro i
    exact ⟨_, rfl, Quiet.withCpu s _, .inl, fun e => absurd rfl e, fun _ => rfl⟩
  case hstop => exact ⟨_, rfl, Quiet.refl s, .inl, fun _ => .inl rfl, id⟩
  case hdi => exact fun i => ⟨_, rfl, Quiet.refl s, fun e => Bool.noConfusion e, fun e => absurd rfl e, id⟩
  case hei => exact ⟨_, rfl, Quiet.refl s, fun _ => .inr (.inl rfl), fun e => absurd rfl e, id⟩
  case hbad => exact fun i op h => ⟨_, rfl, Quiet.refl s, .inl, fun _ => .inr ⟨op, h⟩, id⟩
  case hext =>
    intro i op2
    unfold extended
    split
    · exact ⟨_, rfl, .of_quiet i (((Quiet.rd _ s).trans (Quiet.wr _ _ _)).trans (Quiet.withCpu _ _)) (by simp)⟩
    · exact ⟨_, rfl, .of_quiet i ((Quiet.rd _ s).trans (Quiet.withCpu _ _)) (by simp)⟩
    · exact ⟨_, rfl, .of_quiet i ((Quiet.rd _ s).trans (Quiet.wr _ _ _)) (by simp)⟩
    · exact ⟨_, rfl, .of_quiet i ((Quiet.rd _ s).trans (Quiet.wr _ _ _)) (by simp)⟩

end Sys2Proof.Machine
end

