-- ==== Sys2Proof/Laws/Canonical.lean ====
section
/-! SUPPORT. The canonical form of memory: reset has it, and every operation that writes memory keeps it. -/

namespace Sys2Proof.Machine

/-- The memory right after reset is canonical. -/
theorem reset_mem_wf : State.reset.mem.wf = true := rfl

/-- A byte written. -/
theorem Memory.wf_write (m : Memory) (a : Nat) (v : Byte) (h : m.wf = true) : (m.write a v).wf = true :=
  Sparse.wf_set m a v h

/-- A bus write. -/
theorem memWrite_mem_wf (a : Word) (v : Byte) (s : State) (h : s.mem.wf = true) : (memWrite a v s).mem.wf = true :=
  (Quiet.write a v s).canonical h

/-- A bus read. -/
theorem memReadEffect_mem_wf (a : Word) (s : State) (h : s.mem.wf = true) : (memReadEffect a s).mem.wf = true :=
  (Quiet.read a s).canonical h

/-- A byte of the sprite table written by DMA. -/
theorem setOam_mem_wf (i : Nat) (v : Byte) (s : State) (h : s.mem.wf = true) : (s.setOam i v).mem.wf = true :=
  (Paced.setOam i v s).canonical h

/-- Bytes placed at consecutive addresses. -/
theorem placeBytes_wf (bs : List Byte) (a : Nat) (m : Memory) (h : m.wf = true) : (placeBytes bs a m).wf = true := by
  induction bs generalizing a m with
  | nil => exact h
  | cons b t ih => exact ih _ _ (Memory.wf_write m a b h)

end Sys2Proof.Machine
end

