-- ==== Sys2Proof/Laws/Registers.lean ====
section
/-! SUPPORT. The registers on the bus (20_memory.md R131): a read of a register's address is its read accessor, a write its
write accessor. -/

namespace Sys2Proof.Machine

section

variable (s : State) (a : Word) (r : IoReg) (v : Byte)

/-- The region of a register stands in the table. -/
theorem register_mem (b : Bool) (n : Nat) (c : Bool) :
    spanRegion ⟨cfg.ioAddress r, 1⟩ (ioCapability r) (.io r) ∈ platformMap b n c :=
  List.mem_append_right _ (List.mem_map.mpr ⟨r, by cases r <;> decide, rfl⟩)

/-- A region of length 1 covers its start. -/
theorem spanRegion_covers (c : Capability) (k : Backing) (n : Nat) (h : a.toNat = n) :
    (spanRegion ⟨n, 1⟩ c k).covers a.toNat = true := by
  simp [spanRegion, Region.covers, h]

/-- A register that is not write-only answers reads of its address. -/
theorem readOwner_register (hn : s.bootImage.length ≤ 256) (ha : a.toNat = cfg.ioAddress r) (hr : r ≠ .bootOff) :
    s.readOwner a = some (.io r) :=
  (readOwner_iff _ _ _ _ hn).mpr
    ⟨_, register_mem r _ _ _, by cases r <;> first | rfl | exact absurd rfl hr, spanRegion_covers a _ _ _ ha, rfl⟩

/-- A register that is not read-only takes writes to its address. -/
theorem writeOwner_register (ha : a.toNat = cfg.ioAddress r) (hr : r ≠ .ly) : s.writeOwner a = some (.io r) :=
  (writeOwner_iff _ _ _).mpr
    ⟨_, register_mem r _ _ _, by cases r <;> first | rfl | exact absurd rfl hr, spanRegion_covers a _ _ _ ha, rfl⟩

/-- A read of a register. -/
theorem memPeek_register (hn : s.bootImage.length ≤ 256) (ha : a.toNat = cfg.ioAddress r) (hr : r ≠ .bootOff) :
    memPeek a s = some (ioRead r s) := by
  unfold memPeek
  rw [readOwner_register s a r hn ha hr]

/-- A write of a register. -/
theorem memWrite_register (ha : a.toNat = cfg.ioAddress r) (hr : r ≠ .ly) : memWrite a v s = ioWrite r v s := by
  unfold memWrite memWrite?
  rw [writeOwner_register s a r ha hr]
  rfl

/-- A write to ROM with no banking controller is an unmapped-write, and nothing changes (R111). -/
theorem memWrite_rom (h : a.toNat < 0x8000) (hc : s.ext.hasController = false) : memWrite? a v s = none := by
  unfold memWrite? State.writeOwner
  rw [writeOwner_rom _ a h, hc]
  rfl

/-- A read of a byte of a buffer. -/
theorem memPeek_buffer (hn : s.bootImage.length ≤ 256) (h : bufferAddress a.toNat = true) :
    memPeek a s = some (s.mem.read a.toNat) := by
  unfold memPeek State.readOwner
  rw [(readOwner_buffer _ _ _ hn).mpr h]

/-- A read of a buffer notes no access. -/
theorem memReadEffect_buffer (hn : s.bootImage.length ≤ 256) (h : bufferAddress a.toNat = true) :
    memReadEffect a s = s := by
  unfold memReadEffect State.readOwner
  rw [(readOwner_buffer _ _ _ hn).mpr h]

end

end Sys2Proof.Machine
end

