-- ==== Sys2Proof/Laws/Step.lean ====
section
/-! SUPPORT. The fetch and the step: how many bytes are fetched, why they always decode, and what a step is once its
instruction is known (60_exceptions.md R440). -/

namespace Sys2Proof

/-- Every instruction has 1 to 3 bytes (30_encoding.md R175). -/
theorem fetchedLength_range (op : Byte) : fetchedLength op = 1 ∨ fetchedLength op = 2 ∨ fetchedLength op = 3 := by
  unfold fetchedLength instrLength
  split
  · exact .inl rfl
  · split
    · exact .inr (.inr rfl)
    · split
      · exact .inr (.inl rfl)
      · exact .inl rfl

section

variable (op n m : Byte) (rest : List Byte)

/-- A one-byte instruction. -/
theorem decode_one (e : fetchedLength op = 1) : decode (op :: rest) = .ok (decodeOp op 0#8 0#8, rest) := by
  simp only [decode, e]

/-- A two-byte instruction. -/
theorem decode_two (e : fetchedLength op = 2) : decode (op :: n :: rest) = .ok (decodeOp op n 0#8, rest) := by
  simp only [decode, e]

/-- A three-byte instruction. -/
theorem decode_three (e : fetchedLength op = 3) : decode (op :: n :: m :: rest) = .ok (decodeOp op n m, rest) := by
  simp only [decode, e]

/-- A first byte with as many bytes behind it as its instruction has decodes, and takes them all. -/
theorem decode_whole (h : rest.length + 1 = fetchedLength op) :
    decode (op :: rest) = .ok (decodeOp op (rest.getD 0 0#8) (rest.getD 1 0#8), []) := by
  rcases fetchedLength_range op with e | e | e <;> rw [e] at h
  · match rest, h with
    | [], _ => exact decode_one op [] e
  · match rest, h with
    | [n], _ => exact decode_two op n [] e
  · match rest, h with
    | [n, m], _ => exact decode_three op n m [] e

/-- Bytes too few for the instruction do not decode. -/
theorem decode_short (h : rest.length + 1 < fetchedLength op) : decode (op :: rest) = .error (.missingOperand op) := by
  rcases fetchedLength_range op with e | e | e <;> rw [e] at h
  · omega
  · match rest, h with
    | [], _ => simp only [decode, e]
    | _ :: _, h => simp at h
  · match rest, h with
    | [], _ => simp only [decode, e]
    | [_], _ => simp only [decode, e]
    | _ :: _ :: _, h => simp at h; omega

end

namespace Machine

/-- As many bytes are fetched as asked for. -/
theorem fetchBytes_length (n : Nat) (s : State) : (fetchBytes n s).1.length = n := by
  induction n generalizing s with
  | zero => rfl
  | succ n ih => simp only [fetchBytes, List.length_cons, ih]

/-- The bytes of a fetch are those of one instruction, so they always decode: no step is refused as undecodable. -/
theorem decode_fetchInstr (s : State) : ∃ i, decode (fetchInstr s).1 = .ok (i, []) := by
  refine ⟨_, decode_whole _ _ ?_⟩
  rw [fetchBytes_length]
  rcases fetchedLength_range (fetch8 s).1 with e | e | e <;> rw [e]

/-- The fetch is quiet. -/
theorem Quiet.fetchInstr (s : State) : Quiet s (fetchInstr s).2 := (Quiet.fetch8 s).trans (Quiet.fetchBytes _ _)

/-- The CPU step always answers a next state: 4 cycles, or an instruction. -/
theorem cpuStep_cases (s : State) :
    (s.cpu.halted = true ∧ cpuStep s = .next (tick 4 s)) ∨
    (s.cpu.halted = false ∧ ∃ i t, decode (fetchInstr s).1 = .ok (i, []) ∧ exec i (fetchInstr s).2 = .next t ∧
      cpuStep s = .next t ∧ Quietly i (fetchInstr s).2 t) := by
  cases h : s.cpu.halted with
  | true =>
    refine .inl ⟨rfl, ?_⟩
    unfold cpuStep
    rw [h]
    rfl
  | false =>
    obtain ⟨i, hi⟩ := decode_fetchInstr s
    obtain ⟨t, ht, hq⟩ := exec_quietly i (Machine.fetchInstr s).2
    refine .inr ⟨rfl, i, t, hi, ht, ?_, hq⟩
    unfold cpuStep
    rw [h]
    simp only [Bool.false_eq_true, if_false, hi]
    exact ht

/-- The step of a machine that was started, by its parts. -/
theorem step_cases (s : State) (h : s.bootImage.length ≤ 256) :
    ((betweenSteps s).stopped ≠ none ∧ step s = .next (betweenSteps s)) ∨
    ((betweenSteps s).stopped = none ∧ ∃ t, cpuStep (dispatch (betweenSteps s)) = .next t ∧
      step s = .next (finishStep t)) := by
  have hs : step s = topStep (betweenSteps s) := by
    unfold step
    exact if_neg (by simpa [cfg] using h)
  rw [hs]
  unfold topStep
  cases hb : (betweenSteps s).stopped with
  | some r => exact .inl ⟨by simp, rfl⟩
  | none =>
    refine .inr ⟨rfl, ?_⟩
    rcases cpuStep_cases (dispatch (betweenSteps s)) with ⟨_, e⟩ | ⟨_, i, t, _, _, e, _⟩ <;>
      exact ⟨_, e, by rw [e]; rfl⟩

end Machine

end Sys2Proof
end

