-- ==== Sys2Proof/Tests/Slice0.lean ====
section
/-! SUPPORT. Tests of the model. Every expected result is from the spec: the grids of 30_encoding.md and the vectors of
95_test_vectors.md. The witnesses show, for each statement with hypotheses, states and operands that meet them. -/

set_option maxRecDepth 8000

namespace Sys2Proof.Machine

/-- The bytes decode to the instruction, and all of them are taken. -/
def decodesTo (bs : List Byte) (i : Instr) : Bool :=
  match decode bs with
  | .ok (j, []) => decide (j = i)
  | _ => false

/-- Each word of a list decodes to its instruction. -/
def allDecode (l : List (List Byte × Instr)) : Bool := l.all fun r => decodesTo r.1 r.2

/-- A result is a next state, and the state is as said. -/
def after (r : Result) (p : State → Bool) : Bool :=
  match r with
  | .next t => p t
  | _ => false

/-- The set-up of the vectors (95_test_vectors.md 2.0): reset, the ROM-only cartridge, no boot image, bytes at C000, PC
there, SP at DFF0. -/
def code (bs : List Byte) : State :=
  (({ State.resetWith [] (.romOnly []) [] with mem := placeBytes bs 0xC000 [] }).setPc 0xC000#16).setSp 0xDFF0#16

/-- A byte of memory written directly. -/
def State.withByte (s : State) (a : Nat) (v : Byte) : State := { s with mem := s.mem.write a v }

/-- The interrupt state written directly. -/
def State.withIrq (s : State) (requested enabled : BitVec 5) (ime : Bool) : State :=
  { s with irq := { requested := requested, enabled := enabled, ime := ime } }

/-- The one check of WellFormed refuses the prefix row, whatever its second byte (47_system.md R386). -/
theorem test_wellFormed_refuses_prefix : (Instr.prefixCb 0x37#8).wellFormed = false := by decide

/-- The extended row it stands for is well-formed, and so are an unassigned byte and an instruction with an operand. -/
theorem test_wellFormed_accepts :
    Instr.swapA.wellFormed = true ∧ Instr.illegalDD.wellFormed = true ∧ (Instr.jpA16 0xFFFF#16).wellFormed = true := by
  decide

/-- Words of every family, written out bit by bit from the encodings of the opcode table (30_encoding.md R168 to R173). -/
theorem test_decode_bits : allDecode [
    ([0b01000001#8], .ldBC), ([0b00111110#8, 0b01111111#8], .ldAD8 0x7F#8),
    ([0b00000001#8, 0b00010001#8, 0b00100010#8], .ldBcD16 0x2211#16), ([0b11110101#8], .pushAf),
    ([0b10011000#8], .sbcAB), ([0b00110100#8], .incMHl), ([0b00101001#8], .addHlHl),
    ([0b11101000#8, 0b11111110#8], .addSpR8 0xFE#8), ([0b00001111#8], .rrca),
    ([0b11001010#8, 0b00110100#8, 0b00010010#8], .jpZA16 0x1234#16), ([0b00011000#8, 0b11111110#8], .jrR8 0xFE#8),
    ([0b11001011#8, 0b00110111#8], .swapA), ([0b11001011#8, 0b01111110#8], .bit7MHl),
    ([0b11001011#8, 0b10111110#8], .res7MHl), ([0b11001011#8, 0b11011110#8], .set3MHl), ([0b01110110#8], .halt),
    ([0b11010011#8], .illegalD3)] = true := by decide

/-- Bytes that end too early are rejected by name (30_encoding.md R175). -/
theorem test_decode_rejects :
    (match decode [0xC3#8, 0x34#8] with | .error e => e == .missingOperand 0xC3#8 | .ok _ => false) = true ∧
    (match decode [] with | .error e => e == .noBytes | .ok _ => false) = true := by decide

/-- A table word numbered as the table numbers it: first byte lowest (spec/opcode_table.json). -/
theorem test_decodeTableWord :
    decodeTableWord 24 0x1234C3 = some (.jpA16 0x1234#16) ∧ decodeTableWord 16 0x37CB = some .swapA ∧
    decodeTableWord 8 0xC3 = some (.jpA16 0x0000#16) := by decide

/-- 30_encoding.md R179, columns 00 to 07 of the grid. -/
theorem test_decode_first_00 : allDecode [
    ([0x00#8], .nop), ([0x01#8, 0x34#8, 0x12#8], .ldBcD16 0x1234#16), ([0x02#8], .ldMBcA), ([0x03#8], .incBc),
    ([0x04#8], .incB), ([0x05#8], .decB), ([0x06#8, 0x9A#8], .ldBD8 0x9A#8), ([0x07#8], .rlca)] = true := by decide

/-- 30_encoding.md R179, columns 08 to 0F of the grid. -/
theorem test_decode_first_08 : allDecode [
    ([0x08#8, 0x34#8, 0x12#8], .ldMA16Sp 0x1234#16), ([0x09#8], .addHlBc), ([0x0A#8], .ldAMBc),
    ([0x0B#8], .decBc), ([0x0C#8], .incC), ([0x0D#8], .decC), ([0x0E#8, 0x9A#8], .ldCD8 0x9A#8),
    ([0x0F#8], .rrca)] = true := by decide

/-- 30_encoding.md R179, columns 10 to 17 of the grid. -/
theorem test_decode_first_10 : allDecode [
    ([0x10#8], .stop), ([0x11#8, 0x34#8, 0x12#8], .ldDeD16 0x1234#16), ([0x12#8], .ldMDeA), ([0x13#8], .incDe),
    ([0x14#8], .incD), ([0x15#8], .decD), ([0x16#8, 0x9A#8], .ldDD8 0x9A#8), ([0x17#8], .rla)] = true := by decide

/-- 30_encoding.md R179, columns 18 to 1F of the grid. -/
theorem test_decode_first_18 : allDecode [
    ([0x18#8, 0x9A#8], .jrR8 0x9A#8), ([0x19#8], .addHlDe), ([0x1A#8], .ldAMDe), ([0x1B#8], .decDe),
    ([0x1C#8], .incE), ([0x1D#8], .decE), ([0x1E#8, 0x9A#8], .ldED8 0x9A#8), ([0x1F#8], .rra)] = true := by decide

/-- 30_encoding.md R179, columns 20 to 27 of the grid. -/
theorem test_decode_first_20 : allDecode [
    ([0x20#8, 0x9A#8], .jrNzR8 0x9A#8), ([0x21#8, 0x34#8, 0x12#8], .ldHlD16 0x1234#16), ([0x22#8], .ldMHlIncA),
    ([0x23#8], .incHl), ([0x24#8], .incH), ([0x25#8], .decH), ([0x26#8, 0x9A#8], .ldHD8 0x9A#8),
    ([0x27#8], .daa)] = true := by decide

/-- 30_encoding.md R179, columns 28 to 2F of the grid. -/
theorem test_decode_first_28 : allDecode [
    ([0x28#8, 0x9A#8], .jrZR8 0x9A#8), ([0x29#8], .addHlHl), ([0x2A#8], .ldAMHlInc), ([0x2B#8], .decHl),
    ([0x2C#8], .incL), ([0x2D#8], .decL), ([0x2E#8, 0x9A#8], .ldLD8 0x9A#8), ([0x2F#8], .cpl)] = true := by decide

/-- 30_encoding.md R179, columns 30 to 37 of the grid. -/
theorem test_decode_first_30 : allDecode [
    ([0x30#8, 0x9A#8], .jrNcR8 0x9A#8), ([0x31#8, 0x34#8, 0x12#8], .ldSpD16 0x1234#16), ([0x32#8], .ldMHlDecA),
    ([0x33#8], .incSp), ([0x34#8], .incMHl), ([0x35#8], .decMHl), ([0x36#8, 0x9A#8], .ldMHlD8 0x9A#8),
    ([0x37#8], .scf)] = true := by decide

/-- 30_encoding.md R179, columns 38 to 3F of the grid. -/
theorem test_decode_first_38 : allDecode [
    ([0x38#8, 0x9A#8], .jrCR8 0x9A#8), ([0x39#8], .addHlSp), ([0x3A#8], .ldAMHlDec), ([0x3B#8], .decSp),
    ([0x3C#8], .incA), ([0x3D#8], .decA), ([0x3E#8, 0x9A#8], .ldAD8 0x9A#8), ([0x3F#8], .ccf)] = true := by decide

/-- 30_encoding.md R179, columns 40 to 47 of the grid. -/
theorem test_decode_first_40 : allDecode [
    ([0x40#8], .ldBB), ([0x41#8], .ldBC), ([0x42#8], .ldBD), ([0x43#8], .ldBE), ([0x44#8], .ldBH),
    ([0x45#8], .ldBL), ([0x46#8], .ldBMHl), ([0x47#8], .ldBA)] = true := by decide

/-- 30_encoding.md R179, columns 48 to 4F of the grid. -/
theorem test_decode_first_48 : allDecode [
    ([0x48#8], .ldCB), ([0x49#8], .ldCC), ([0x4A#8], .ldCD), ([0x4B#8], .ldCE), ([0x4C#8], .ldCH),
    ([0x4D#8], .ldCL), ([0x4E#8], .ldCMHl), ([0x4F#8], .ldCA)] = true := by decide

/-- 30_encoding.md R179, columns 50 to 57 of the grid. -/
theorem test_decode_first_50 : allDecode [
    ([0x50#8], .ldDB), ([0x51#8], .ldDC), ([0x52#8], .ldDD), ([0x53#8], .ldDE), ([0x54#8], .ldDH),
    ([0x55#8], .ldDL), ([0x56#8], .ldDMHl), ([0x57#8], .ldDA)] = true := by decide

/-- 30_encoding.md R179, columns 58 to 5F of the grid. -/
theorem test_decode_first_58 : allDecode [
    ([0x58#8], .ldEB), ([0x59#8], .ldEC), ([0x5A#8], .ldED), ([0x5B#8], .ldEE), ([0x5C#8], .ldEH),
    ([0x5D#8], .ldEL), ([0x5E#8], .ldEMHl), ([0x5F#8], .ldEA)] = true := by decide

/-- 30_encoding.md R179, columns 60 to 67 of the grid. -/
theorem test_decode_first_60 : allDecode [
    ([0x60#8], .ldHB), ([0x61#8], .ldHC), ([0x62#8], .ldHD), ([0x63#8], .ldHE), ([0x64#8], .ldHH),
    ([0x65#8], .ldHL), ([0x66#8], .ldHMHl), ([0x67#8], .ldHA)] = true := by decide

/-- 30_encoding.md R179, columns 68 to 6F of the grid. -/
theorem test_decode_first_68 : allDecode [
    ([0x68#8], .ldLB), ([0x69#8], .ldLC), ([0x6A#8], .ldLD), ([0x6B#8], .ldLE), ([0x6C#8], .ldLH),
    ([0x6D#8], .ldLL), ([0x6E#8], .ldLMHl), ([0x6F#8], .ldLA)] = true := by decide

/-- 30_encoding.md R179, columns 70 to 77 of the grid. -/
theorem test_decode_first_70 : allDecode [
    ([0x70#8], .ldMHlB), ([0x71#8], .ldMHlC), ([0x72#8], .ldMHlD), ([0x73#8], .ldMHlE), ([0x74#8], .ldMHlH),
    ([0x75#8], .ldMHlL), ([0x76#8], .halt), ([0x77#8], .ldMHlA)] = true := by decide

/-- 30_encoding.md R179, columns 78 to 7F of the grid. -/
theorem test_decode_first_78 : allDecode [
    ([0x78#8], .ldAB), ([0x79#8], .ldAC), ([0x7A#8], .ldAD), ([0x7B#8], .ldAE), ([0x7C#8], .ldAH),
    ([0x7D#8], .ldAL), ([0x7E#8], .ldAMHl), ([0x7F#8], .ldAA)] = true := by decide

/-- 30_encoding.md R179, columns 80 to 87 of the grid. -/
theorem test_decode_first_80 : allDecode [
    ([0x80#8], .addAB), ([0x81#8], .addAC), ([0x82#8], .addAD), ([0x83#8], .addAE), ([0x84#8], .addAH),
    ([0x85#8], .addAL), ([0x86#8], .addAMHl), ([0x87#8], .addAA)] = true := by decide

/-- 30_encoding.md R179, columns 88 to 8F of the grid. -/
theorem test_decode_first_88 : allDecode [
    ([0x88#8], .adcAB), ([0x89#8], .adcAC), ([0x8A#8], .adcAD), ([0x8B#8], .adcAE), ([0x8C#8], .adcAH),
    ([0x8D#8], .adcAL), ([0x8E#8], .adcAMHl), ([0x8F#8], .adcAA)] = true := by decide

/-- 30_encoding.md R179, columns 90 to 97 of the grid. -/
theorem test_decode_first_90 : allDecode [
    ([0x90#8], .subB), ([0x91#8], .subC), ([0x92#8], .subD), ([0x93#8], .subE), ([0x94#8], .subH),
    ([0x95#8], .subL), ([0x96#8], .subMHl), ([0x97#8], .subA)] = true := by decide

/-- 30_encoding.md R179, columns 98 to 9F of the grid. -/
theorem test_decode_first_98 : allDecode [
    ([0x98#8], .sbcAB), ([0x99#8], .sbcAC), ([0x9A#8], .sbcAD), ([0x9B#8], .sbcAE), ([0x9C#8], .sbcAH),
    ([0x9D#8], .sbcAL), ([0x9E#8], .sbcAMHl), ([0x9F#8], .sbcAA)] = true := by decide

/-- 30_encoding.md R179, columns A0 to A7 of the grid. -/
theorem test_decode_first_a0 : allDecode [
    ([0xA0#8], .andB), ([0xA1#8], .andC), ([0xA2#8], .andD), ([0xA3#8], .andE), ([0xA4#8], .andH),
    ([0xA5#8], .andL), ([0xA6#8], .andMHl), ([0xA7#8], .andA)] = true := by decide

/-- 30_encoding.md R179, columns A8 to AF of the grid. -/
theorem test_decode_first_a8 : allDecode [
    ([0xA8#8], .xorB), ([0xA9#8], .xorC), ([0xAA#8], .xorD), ([0xAB#8], .xorE), ([0xAC#8], .xorH),
    ([0xAD#8], .xorL), ([0xAE#8], .xorMHl), ([0xAF#8], .xorA)] = true := by decide

/-- 30_encoding.md R179, columns B0 to B7 of the grid. -/
theorem test_decode_first_b0 : allDecode [
    ([0xB0#8], .orB), ([0xB1#8], .orC), ([0xB2#8], .orD), ([0xB3#8], .orE), ([0xB4#8], .orH), ([0xB5#8], .orL),
    ([0xB6#8], .orMHl), ([0xB7#8], .orA)] = true := by decide

/-- 30_encoding.md R179, columns B8 to BF of the grid. -/
theorem test_decode_first_b8 : allDecode [
    ([0xB8#8], .cpB), ([0xB9#8], .cpC), ([0xBA#8], .cpD), ([0xBB#8], .cpE), ([0xBC#8], .cpH), ([0xBD#8], .cpL),
    ([0xBE#8], .cpMHl), ([0xBF#8], .cpA)] = true := by decide

/-- 30_encoding.md R179, columns C0 to C7 of the grid. -/
theorem test_decode_first_c0 : allDecode [
    ([0xC0#8], .retNz), ([0xC1#8], .popBc), ([0xC2#8, 0x34#8, 0x12#8], .jpNzA16 0x1234#16),
    ([0xC3#8, 0x34#8, 0x12#8], .jpA16 0x1234#16), ([0xC4#8, 0x34#8, 0x12#8], .callNzA16 0x1234#16),
    ([0xC5#8], .pushBc), ([0xC6#8, 0x9A#8], .addAD8 0x9A#8), ([0xC7#8], .rst00)] = true := by decide

/-- 30_encoding.md R179, columns C8 to CF of the grid. -/
theorem test_decode_first_c8 : allDecode [
    ([0xC8#8], .retZ), ([0xC9#8], .ret), ([0xCA#8, 0x34#8, 0x12#8], .jpZA16 0x1234#16),
    ([0xCC#8, 0x34#8, 0x12#8], .callZA16 0x1234#16), ([0xCD#8, 0x34#8, 0x12#8], .callA16 0x1234#16),
    ([0xCE#8, 0x9A#8], .adcAD8 0x9A#8), ([0xCF#8], .rst08)] = true := by decide

/-- 30_encoding.md R179, columns D0 to D7 of the grid. -/
theorem test_decode_first_d0 : allDecode [
    ([0xD0#8], .retNc), ([0xD1#8], .popDe), ([0xD2#8, 0x34#8, 0x12#8], .jpNcA16 0x1234#16),
    ([0xD3#8], .illegalD3), ([0xD4#8, 0x34#8, 0x12#8], .callNcA16 0x1234#16), ([0xD5#8], .pushDe),
    ([0xD6#8, 0x9A#8], .subD8 0x9A#8), ([0xD7#8], .rst10)] = true := by decide

/-- 30_encoding.md R179, columns D8 to DF of the grid. -/
theorem test_decode_first_d8 : allDecode [
    ([0xD8#8], .retC), ([0xD9#8], .reti), ([0xDA#8, 0x34#8, 0x12#8], .jpCA16 0x1234#16), ([0xDB#8], .illegalDB),
    ([0xDC#8, 0x34#8, 0x12#8], .callCA16 0x1234#16), ([0xDD#8], .illegalDD), ([0xDE#8, 0x9A#8], .sbcAD8 0x9A#8),
    ([0xDF#8], .rst18)] = true := by decide

/-- 30_encoding.md R179, columns E0 to E7 of the grid. -/
theorem test_decode_first_e0 : allDecode [
    ([0xE0#8, 0x9A#8], .ldhMA8A 0x9A#8), ([0xE1#8], .popHl), ([0xE2#8], .ldhMCA), ([0xE3#8], .illegalE3),
    ([0xE4#8], .illegalE4), ([0xE5#8], .pushHl), ([0xE6#8, 0x9A#8], .andD8 0x9A#8), ([0xE7#8], .rst20)] = true := by decide

/-- 30_encoding.md R179, columns E8 to EF of the grid. -/
theorem test_decode_first_e8 : allDecode [
    ([0xE8#8, 0x9A#8], .addSpR8 0x9A#8), ([0xE9#8], .jpHl), ([0xEA#8, 0x34#8, 0x12#8], .ldMA16A 0x1234#16),
    ([0xEB#8], .illegalEB), ([0xEC#8], .illegalEC), ([0xED#8], .illegalED), ([0xEE#8, 0x9A#8], .xorD8 0x9A#8),
    ([0xEF#8], .rst28)] = true := by decide

/-- 30_encoding.md R179, columns F0 to F7 of the grid. -/
theorem test_decode_first_f0 : allDecode [
    ([0xF0#8, 0x9A#8], .ldhAMA8 0x9A#8), ([0xF1#8], .popAf), ([0xF2#8], .ldhAMC), ([0xF3#8], .di),
    ([0xF4#8], .illegalF4), ([0xF5#8], .pushAf), ([0xF6#8, 0x9A#8], .orD8 0x9A#8), ([0xF7#8], .rst30)] = true := by decide

/-- 30_encoding.md R179, columns F8 to FF of the grid. -/
theorem test_decode_first_f8 : allDecode [
    ([0xF8#8, 0x9A#8], .ldHlSpR8 0x9A#8), ([0xF9#8], .ldSpHl), ([0xFA#8, 0x34#8, 0x12#8], .ldAMA16 0x1234#16),
    ([0xFB#8], .ei), ([0xFC#8], .illegalFC), ([0xFD#8], .illegalFD), ([0xFE#8, 0x9A#8], .cpD8 0x9A#8),
    ([0xFF#8], .rst38)] = true := by decide

/-- 30_encoding.md R180, columns 00 to 07 of the grid. -/
theorem test_decode_extended_00 : allDecode [
    ([0xCB#8, 0x00#8], .rlcB), ([0xCB#8, 0x01#8], .rlcC), ([0xCB#8, 0x02#8], .rlcD), ([0xCB#8, 0x03#8], .rlcE),
    ([0xCB#8, 0x04#8], .rlcH), ([0xCB#8, 0x05#8], .rlcL), ([0xCB#8, 0x06#8], .rlcMHl), ([0xCB#8, 0x07#8], .rlcA)] = true := by decide

/-- 30_encoding.md R180, columns 08 to 0F of the grid. -/
theorem test_decode_extended_08 : allDecode [
    ([0xCB#8, 0x08#8], .rrcB), ([0xCB#8, 0x09#8], .rrcC), ([0xCB#8, 0x0A#8], .rrcD), ([0xCB#8, 0x0B#8], .rrcE),
    ([0xCB#8, 0x0C#8], .rrcH), ([0xCB#8, 0x0D#8], .rrcL), ([0xCB#8, 0x0E#8], .rrcMHl), ([0xCB#8, 0x0F#8], .rrcA)] = true := by decide

/-- 30_encoding.md R180, columns 10 to 17 of the grid. -/
theorem test_decode_extended_10 : allDecode [
    ([0xCB#8, 0x10#8], .rlB), ([0xCB#8, 0x11#8], .rlC), ([0xCB#8, 0x12#8], .rlD), ([0xCB#8, 0x13#8], .rlE),
    ([0xCB#8, 0x14#8], .rlH), ([0xCB#8, 0x15#8], .rlL), ([0xCB#8, 0x16#8], .rlMHl), ([0xCB#8, 0x17#8], .rlA)] = true := by decide

/-- 30_encoding.md R180, columns 18 to 1F of the grid. -/
theorem test_decode_extended_18 : allDecode [
    ([0xCB#8, 0x18#8], .rrB), ([0xCB#8, 0x19#8], .rrC), ([0xCB#8, 0x1A#8], .rrD), ([0xCB#8, 0x1B#8], .rrE),
    ([0xCB#8, 0x1C#8], .rrH), ([0xCB#8, 0x1D#8], .rrL), ([0xCB#8, 0x1E#8], .rrMHl), ([0xCB#8, 0x1F#8], .rrA)] = true := by decide

/-- 30_encoding.md R180, columns 20 to 27 of the grid. -/
theorem test_decode_extended_20 : allDecode [
    ([0xCB#8, 0x20#8], .slaB), ([0xCB#8, 0x21#8], .slaC), ([0xCB#8, 0x22#8], .slaD), ([0xCB#8, 0x23#8], .slaE),
    ([0xCB#8, 0x24#8], .slaH), ([0xCB#8, 0x25#8], .slaL), ([0xCB#8, 0x26#8], .slaMHl), ([0xCB#8, 0x27#8], .slaA)] = true := by decide

/-- 30_encoding.md R180, columns 28 to 2F of the grid. -/
theorem test_decode_extended_28 : allDecode [
    ([0xCB#8, 0x28#8], .sraB), ([0xCB#8, 0x29#8], .sraC), ([0xCB#8, 0x2A#8], .sraD), ([0xCB#8, 0x2B#8], .sraE),
    ([0xCB#8, 0x2C#8], .sraH), ([0xCB#8, 0x2D#8], .sraL), ([0xCB#8, 0x2E#8], .sraMHl), ([0xCB#8, 0x2F#8], .sraA)] = true := by decide

/-- 30_encoding.md R180, columns 30 to 37 of the grid. -/
theorem test_decode_extended_30 : allDecode [
    ([0xCB#8, 0x30#8], .swapB), ([0xCB#8, 0x31#8], .swapC), ([0xCB#8, 0x32#8], .swapD),
    ([0xCB#8, 0x33#8], .swapE), ([0xCB#8, 0x34#8], .swapH), ([0xCB#8, 0x35#8], .swapL),
    ([0xCB#8, 0x36#8], .swapMHl), ([0xCB#8, 0x37#8], .swapA)] = true := by decide

/-- 30_encoding.md R180, columns 38 to 3F of the grid. -/
theorem test_decode_extended_38 : allDecode [
    ([0xCB#8, 0x38#8], .srlB), ([0xCB#8, 0x39#8], .srlC), ([0xCB#8, 0x3A#8], .srlD), ([0xCB#8, 0x3B#8], .srlE),
    ([0xCB#8, 0x3C#8], .srlH), ([0xCB#8, 0x3D#8], .srlL), ([0xCB#8, 0x3E#8], .srlMHl), ([0xCB#8, 0x3F#8], .srlA)] = true := by decide

/-- 30_encoding.md R180, columns 40 to 47 of the grid. -/
theorem test_decode_extended_40 : allDecode [
    ([0xCB#8, 0x40#8], .bit0B), ([0xCB#8, 0x41#8], .bit0C), ([0xCB#8, 0x42#8], .bit0D),
    ([0xCB#8, 0x43#8], .bit0E), ([0xCB#8, 0x44#8], .bit0H), ([0xCB#8, 0x45#8], .bit0L),
    ([0xCB#8, 0x46#8], .bit0MHl), ([0xCB#8, 0x47#8], .bit0A)] = true := by decide

/-- 30_encoding.md R180, columns 48 to 4F of the grid. -/
theorem test_decode_extended_48 : allDecode [
    ([0xCB#8, 0x48#8], .bit1B), ([0xCB#8, 0x49#8], .bit1C), ([0xCB#8, 0x4A#8], .bit1D),
    ([0xCB#8, 0x4B#8], .bit1E), ([0xCB#8, 0x4C#8], .bit1H), ([0xCB#8, 0x4D#8], .bit1L),
    ([0xCB#8, 0x4E#8], .bit1MHl), ([0xCB#8, 0x4F#8], .bit1A)] = true := by decide

/-- 30_encoding.md R180, columns 50 to 57 of the grid. -/
theorem test_decode_extended_50 : allDecode [
    ([0xCB#8, 0x50#8], .bit2B), ([0xCB#8, 0x51#8], .bit2C), ([0xCB#8, 0x52#8], .bit2D),
    ([0xCB#8, 0x53#8], .bit2E), ([0xCB#8, 0x54#8], .bit2H), ([0xCB#8, 0x55#8], .bit2L),
    ([0xCB#8, 0x56#8], .bit2MHl), ([0xCB#8, 0x57#8], .bit2A)] = true := by decide

/-- 30_encoding.md R180, columns 58 to 5F of the grid. -/
theorem test_decode_extended_58 : allDecode [
    ([0xCB#8, 0x58#8], .bit3B), ([0xCB#8, 0x59#8], .bit3C), ([0xCB#8, 0x5A#8], .bit3D),
    ([0xCB#8, 0x5B#8], .bit3E), ([0xCB#8, 0x5C#8], .bit3H), ([0xCB#8, 0x5D#8], .bit3L),
    ([0xCB#8, 0x5E#8], .bit3MHl), ([0xCB#8, 0x5F#8], .bit3A)] = true := by decide

/-- 30_encoding.md R180, columns 60 to 67 of the grid. -/
theorem test_decode_extended_60 : allDecode [
    ([0xCB#8, 0x60#8], .bit4B), ([0xCB#8, 0x61#8], .bit4C), ([0xCB#8, 0x62#8], .bit4D),
    ([0xCB#8, 0x63#8], .bit4E), ([0xCB#8, 0x64#8], .bit4H), ([0xCB#8, 0x65#8], .bit4L),
    ([0xCB#8, 0x66#8], .bit4MHl), ([0xCB#8, 0x67#8], .bit4A)] = true := by decide

/-- 30_encoding.md R180, columns 68 to 6F of the grid. -/
theorem test_decode_extended_68 : allDecode [
    ([0xCB#8, 0x68#8], .bit5B), ([0xCB#8, 0x69#8], .bit5C), ([0xCB#8, 0x6A#8], .bit5D),
    ([0xCB#8, 0x6B#8], .bit5E), ([0xCB#8, 0x6C#8], .bit5H), ([0xCB#8, 0x6D#8], .bit5L),
    ([0xCB#8, 0x6E#8], .bit5MHl), ([0xCB#8, 0x6F#8], .bit5A)] = true := by decide

/-- 30_encoding.md R180, columns 70 to 77 of the grid. -/
theorem test_decode_extended_70 : allDecode [
    ([0xCB#8, 0x70#8], .bit6B), ([0xCB#8, 0x71#8], .bit6C), ([0xCB#8, 0x72#8], .bit6D),
    ([0xCB#8, 0x73#8], .bit6E), ([0xCB#8, 0x74#8], .bit6H), ([0xCB#8, 0x75#8], .bit6L),
    ([0xCB#8, 0x76#8], .bit6MHl), ([0xCB#8, 0x77#8], .bit6A)] = true := by decide

/-- 30_encoding.md R180, columns 78 to 7F of the grid. -/
theorem test_decode_extended_78 : allDecode [
    ([0xCB#8, 0x78#8], .bit7B), ([0xCB#8, 0x79#8], .bit7C), ([0xCB#8, 0x7A#8], .bit7D),
    ([0xCB#8, 0x7B#8], .bit7E), ([0xCB#8, 0x7C#8], .bit7H), ([0xCB#8, 0x7D#8], .bit7L),
    ([0xCB#8, 0x7E#8], .bit7MHl), ([0xCB#8, 0x7F#8], .bit7A)] = true := by decide

/-- 30_encoding.md R180, columns 80 to 87 of the grid. -/
theorem test_decode_extended_80 : allDecode [
    ([0xCB#8, 0x80#8], .res0B), ([0xCB#8, 0x81#8], .res0C), ([0xCB#8, 0x82#8], .res0D),
    ([0xCB#8, 0x83#8], .res0E), ([0xCB#8, 0x84#8], .res0H), ([0xCB#8, 0x85#8], .res0L),
    ([0xCB#8, 0x86#8], .res0MHl), ([0xCB#8, 0x87#8], .res0A)] = true := by decide

/-- 30_encoding.md R180, columns 88 to 8F of the grid. -/
theorem test_decode_extended_88 : allDecode [
    ([0xCB#8, 0x88#8], .res1B), ([0xCB#8, 0x89#8], .res1C), ([0xCB#8, 0x8A#8], .res1D),
    ([0xCB#8, 0x8B#8], .res1E), ([0xCB#8, 0x8C#8], .res1H), ([0xCB#8, 0x8D#8], .res1L),
    ([0xCB#8, 0x8E#8], .res1MHl), ([0xCB#8, 0x8F#8], .res1A)] = true := by decide

/-- 30_encoding.md R180, columns 90 to 97 of the grid. -/
theorem test_decode_extended_90 : allDecode [
    ([0xCB#8, 0x90#8], .res2B), ([0xCB#8, 0x91#8], .res2C), ([0xCB#8, 0x92#8], .res2D),
    ([0xCB#8, 0x93#8], .res2E), ([0xCB#8, 0x94#8], .res2H), ([0xCB#8, 0x95#8], .res2L),
    ([0xCB#8, 0x96#8], .res2MHl), ([0xCB#8, 0x97#8], .res2A)] = true := by decide

/-- 30_encoding.md R180, columns 98 to 9F of the grid. -/
theorem test_decode_extended_98 : allDecode [
    ([0xCB#8, 0x98#8], .res3B), ([0xCB#8, 0x99#8], .res3C), ([0xCB#8, 0x9A#8], .res3D),
    ([0xCB#8, 0x9B#8], .res3E), ([0xCB#8, 0x9C#8], .res3H), ([0xCB#8, 0x9D#8], .res3L),
    ([0xCB#8, 0x9E#8], .res3MHl), ([0xCB#8, 0x9F#8], .res3A)] = true := by decide

/-- 30_encoding.md R180, columns A0 to A7 of the grid. -/
theorem test_decode_extended_a0 : allDecode [
    ([0xCB#8, 0xA0#8], .res4B), ([0xCB#8, 0xA1#8], .res4C), ([0xCB#8, 0xA2#8], .res4D),
    ([0xCB#8, 0xA3#8], .res4E), ([0xCB#8, 0xA4#8], .res4H), ([0xCB#8, 0xA5#8], .res4L),
    ([0xCB#8, 0xA6#8], .res4MHl), ([0xCB#8, 0xA7#8], .res4A)] = true := by decide

/-- 30_encoding.md R180, columns A8 to AF of the grid. -/
theorem test_decode_extended_a8 : allDecode [
    ([0xCB#8, 0xA8#8], .res5B), ([0xCB#8, 0xA9#8], .res5C), ([0xCB#8, 0xAA#8], .res5D),
    ([0xCB#8, 0xAB#8], .res5E), ([0xCB#8, 0xAC#8], .res5H), ([0xCB#8, 0xAD#8], .res5L),
    ([0xCB#8, 0xAE#8], .res5MHl), ([0xCB#8, 0xAF#8], .res5A)] = true := by decide

/-- 30_encoding.md R180, columns B0 to B7 of the grid. -/
theorem test_decode_extended_b0 : allDecode [
    ([0xCB#8, 0xB0#8], .res6B), ([0xCB#8, 0xB1#8], .res6C), ([0xCB#8, 0xB2#8], .res6D),
    ([0xCB#8, 0xB3#8], .res6E), ([0xCB#8, 0xB4#8], .res6H), ([0xCB#8, 0xB5#8], .res6L),
    ([0xCB#8, 0xB6#8], .res6MHl), ([0xCB#8, 0xB7#8], .res6A)] = true := by decide

/-- 30_encoding.md R180, columns B8 to BF of the grid. -/
theorem test_decode_extended_b8 : allDecode [
    ([0xCB#8, 0xB8#8], .res7B), ([0xCB#8, 0xB9#8], .res7C), ([0xCB#8, 0xBA#8], .res7D),
    ([0xCB#8, 0xBB#8], .res7E), ([0xCB#8, 0xBC#8], .res7H), ([0xCB#8, 0xBD#8], .res7L),
    ([0xCB#8, 0xBE#8], .res7MHl), ([0xCB#8, 0xBF#8], .res7A)] = true := by decide

/-- 30_encoding.md R180, columns C0 to C7 of the grid. -/
theorem test_decode_extended_c0 : allDecode [
    ([0xCB#8, 0xC0#8], .set0B), ([0xCB#8, 0xC1#8], .set0C), ([0xCB#8, 0xC2#8], .set0D),
    ([0xCB#8, 0xC3#8], .set0E), ([0xCB#8, 0xC4#8], .set0H), ([0xCB#8, 0xC5#8], .set0L),
    ([0xCB#8, 0xC6#8], .set0MHl), ([0xCB#8, 0xC7#8], .set0A)] = true := by decide

/-- 30_encoding.md R180, columns C8 to CF of the grid. -/
theorem test_decode_extended_c8 : allDecode [
    ([0xCB#8, 0xC8#8], .set1B), ([0xCB#8, 0xC9#8], .set1C), ([0xCB#8, 0xCA#8], .set1D),
    ([0xCB#8, 0xCB#8], .set1E), ([0xCB#8, 0xCC#8], .set1H), ([0xCB#8, 0xCD#8], .set1L),
    ([0xCB#8, 0xCE#8], .set1MHl), ([0xCB#8, 0xCF#8], .set1A)] = true := by decide

/-- 30_encoding.md R180, columns D0 to D7 of the grid. -/
theorem test_decode_extended_d0 : allDecode [
    ([0xCB#8, 0xD0#8], .set2B), ([0xCB#8, 0xD1#8], .set2C), ([0xCB#8, 0xD2#8], .set2D),
    ([0xCB#8, 0xD3#8], .set2E), ([0xCB#8, 0xD4#8], .set2H), ([0xCB#8, 0xD5#8], .set2L),
    ([0xCB#8, 0xD6#8], .set2MHl), ([0xCB#8, 0xD7#8], .set2A)] = true := by decide

/-- 30_encoding.md R180, columns D8 to DF of the grid. -/
theorem test_decode_extended_d8 : allDecode [
    ([0xCB#8, 0xD8#8], .set3B), ([0xCB#8, 0xD9#8], .set3C), ([0xCB#8, 0xDA#8], .set3D),
    ([0xCB#8, 0xDB#8], .set3E), ([0xCB#8, 0xDC#8], .set3H), ([0xCB#8, 0xDD#8], .set3L),
    ([0xCB#8, 0xDE#8], .set3MHl), ([0xCB#8, 0xDF#8], .set3A)] = true := by decide

/-- 30_encoding.md R180, columns E0 to E7 of the grid. -/
theorem test_decode_extended_e0 : allDecode [
    ([0xCB#8, 0xE0#8], .set4B), ([0xCB#8, 0xE1#8], .set4C), ([0xCB#8, 0xE2#8], .set4D),
    ([0xCB#8, 0xE3#8], .set4E), ([0xCB#8, 0xE4#8], .set4H), ([0xCB#8, 0xE5#8], .set4L),
    ([0xCB#8, 0xE6#8], .set4MHl), ([0xCB#8, 0xE7#8], .set4A)] = true := by decide

/-- 30_encoding.md R180, columns E8 to EF of the grid. -/
theorem test_decode_extended_e8 : allDecode [
    ([0xCB#8, 0xE8#8], .set5B), ([0xCB#8, 0xE9#8], .set5C), ([0xCB#8, 0xEA#8], .set5D),
    ([0xCB#8, 0xEB#8], .set5E), ([0xCB#8, 0xEC#8], .set5H), ([0xCB#8, 0xED#8], .set5L),
    ([0xCB#8, 0xEE#8], .set5MHl), ([0xCB#8, 0xEF#8], .set5A)] = true := by decide

/-- 30_encoding.md R180, columns F0 to F7 of the grid. -/
theorem test_decode_extended_f0 : allDecode [
    ([0xCB#8, 0xF0#8], .set6B), ([0xCB#8, 0xF1#8], .set6C), ([0xCB#8, 0xF2#8], .set6D),
    ([0xCB#8, 0xF3#8], .set6E), ([0xCB#8, 0xF4#8], .set6H), ([0xCB#8, 0xF5#8], .set6L),
    ([0xCB#8, 0xF6#8], .set6MHl), ([0xCB#8, 0xF7#8], .set6A)] = true := by decide

/-- 30_encoding.md R180, columns F8 to FF of the grid. -/
theorem test_decode_extended_f8 : allDecode [
    ([0xCB#8, 0xF8#8], .set7B), ([0xCB#8, 0xF9#8], .set7C), ([0xCB#8, 0xFA#8], .set7D),
    ([0xCB#8, 0xFB#8], .set7E), ([0xCB#8, 0xFC#8], .set7H), ([0xCB#8, 0xFD#8], .set7L),
    ([0xCB#8, 0xFE#8], .set7MHl), ([0xCB#8, 0xFF#8], .set7A)] = true := by decide

/-- 95_test_vectors.md 2.1, `41` with B=12, C=34. -/
theorem test_vector_41_1 :
    after (cpuStep (((code [0x41#8]).setReg .b 0x12#8).setReg .c 0x34#8)) (fun t => t.reg .b == 0x34#8 && t.reg .c
    == 0x34#8 && t.cpu.pc == 0xC001#16 && t.timer.cycles == 4) = true := by decide

/-- 95_test_vectors.md 2.1, `3E 7F` with nothing set. -/
theorem test_vector_3e7f_1 :
    after (cpuStep (code [0x3E#8, 0x7F#8])) (fun t => t.reg .a == 0x7F#8 && t.cpu.pc == 0xC002#16 && t.timer.cycles
    == 8) = true := by decide

/-- 95_test_vectors.md 2.1, `66` with HL=C010, [C010]=99. -/
theorem test_vector_66_1 :
    after (cpuStep (((code [0x66#8]).setPair .hl 0xC010#16).withByte 0xC010 0x99#8)) (fun t => t.hl == 0x9910#16 &&
    t.timer.cycles == 8) = true := by decide

/-- 95_test_vectors.md 2.1, `74` with HL=C100. -/
theorem test_vector_74_1 :
    after (cpuStep ((code [0x74#8]).setPair .hl 0xC100#16)) (fun t => t.mem.read 0xC100 == 0xC1#8 && t.timer.cycles
    == 8) = true := by decide

/-- 95_test_vectors.md 2.1, `36 A5` with HL=C101. -/
theorem test_vector_36a5_1 :
    after (cpuStep ((code [0x36#8, 0xA5#8]).setPair .hl 0xC101#16)) (fun t => t.mem.read 0xC101 == 0xA5#8 &&
    t.timer.cycles == 12) = true := by decide

/-- 95_test_vectors.md 2.1, `0A` with BC=C123, [C123]=11. -/
theorem test_vector_0a_1 :
    after (cpuStep (((code [0x0A#8]).setPair .bc 0xC123#16).withByte 0xC123 0x11#8)) (fun t => t.reg .a == 0x11#8 &&
    t.timer.cycles == 8) = true := by decide

/-- 95_test_vectors.md 2.1, `12` with DE=C400, A=44. -/
theorem test_vector_12_1 :
    after (cpuStep (((code [0x12#8]).setPair .de 0xC400#16).setReg .a 0x44#8)) (fun t => t.mem.read 0xC400 == 0x44#8
    && t.timer.cycles == 8) = true := by decide

/-- 95_test_vectors.md 2.1, `FA 34 C2` with [C234]=77. -/
theorem test_vector_fa34c2_1 :
    after (cpuStep ((code [0xFA#8, 0x34#8, 0xC2#8]).withByte 0xC234 0x77#8)) (fun t => t.reg .a == 0x77#8 &&
    t.cpu.pc == 0xC003#16 && t.timer.cycles == 16) = true := by decide

/-- 95_test_vectors.md 2.1, `EA 00 C1` with A=77. -/
theorem test_vector_ea00c1_1 :
    after (cpuStep ((code [0xEA#8, 0x00#8, 0xC1#8]).setReg .a 0x77#8)) (fun t => t.cpu.pc == 0xC003#16 && t.mem.read
    0xC100 == 0x77#8 && t.timer.cycles == 16) = true := by decide

/-- 95_test_vectors.md 2.1, `F2` with C=80, [FF80]=3C. -/
theorem test_vector_f2_1 :
    after (cpuStep (((code [0xF2#8]).setReg .c 0x80#8).withByte 0xFF80 0x3C#8)) (fun t => t.reg .a == 0x3C#8 &&
    t.timer.cycles == 8) = true := by decide

/-- 95_test_vectors.md 2.1, `E2` with C=80, A=01. -/
theorem test_vector_e2_1 :
    after (cpuStep (((code [0xE2#8]).setReg .c 0x80#8).setReg .a 0x01#8)) (fun t => t.mem.read 0xFF80 == 0x01#8 &&
    t.timer.cycles == 8) = true := by decide

/-- 95_test_vectors.md 2.1, `E0 81` with A=AB. -/
theorem test_vector_e081_1 :
    after (cpuStep ((code [0xE0#8, 0x81#8]).setReg .a 0xAB#8)) (fun t => t.mem.read 0xFF81 == 0xAB#8 &&
    t.timer.cycles == 12) = true := by decide

/-- 95_test_vectors.md 2.1, `F0 0F` with IF=05. -/
theorem test_vector_f00f_1 :
    after (cpuStep ((code [0xF0#8, 0x0F#8]).withIrq 0x05#5 0#5 false)) (fun t => t.reg .a == 0xE5#8 &&
    t.timer.cycles == 12) = true := by decide

/-- 95_test_vectors.md 2.1, `2A` with HL=FFFF, IE=15. -/
theorem test_vector_2a_2 :
    after (cpuStep (((code [0x2A#8]).setPair .hl 0xFFFF#16).withIrq 0#5 0x15#5 false)) (fun t => t.reg .a == 0x15#8
    && t.hl == 0x0000#16 && t.timer.cycles == 8) = true := by decide

/-- 95_test_vectors.md 2.1, `3A` with HL=0000. -/
theorem test_vector_3a_1 :
    after (cpuStep ((code [0x3A#8]).setPair .hl 0x0000#16)) (fun t => t.reg .a == 0x00#8 && t.hl == 0xFFFF#16 &&
    t.timer.cycles == 8) = true := by decide

/-- 95_test_vectors.md 2.1, `22` with HL=9FFF, A=5A. -/
theorem test_vector_22_1 :
    after (cpuStep (((code [0x22#8]).setPair .hl 0x9FFF#16).setReg .a 0x5A#8)) (fun t => t.hl == 0xA000#16 &&
    t.mem.read 0x9FFF == 0x5A#8 && t.timer.cycles == 8) = true := by decide

/-- 95_test_vectors.md 2.1, `32` with HL=C100, A=5B. -/
theorem test_vector_32_1 :
    after (cpuStep (((code [0x32#8]).setPair .hl 0xC100#16).setReg .a 0x5B#8)) (fun t => t.hl == 0xC0FF#16 &&
    t.mem.read 0xC100 == 0x5B#8 && t.timer.cycles == 8) = true := by decide

/-- 95_test_vectors.md 2.2, `01 11 22` with nothing set. -/
theorem test_vector_011122_1 :
    after (cpuStep (code [0x01#8, 0x11#8, 0x22#8])) (fun t => t.bc == 0x2211#16 && t.cpu.pc == 0xC003#16 &&
    t.timer.cycles == 12) = true := by decide

/-- 95_test_vectors.md 2.2, `08 00 C1` with SP=DFF0. -/
theorem test_vector_0800c1_1 :
    after (cpuStep ((code [0x08#8, 0x00#8, 0xC1#8]).setSp 0xDFF0#16)) (fun t => t.mem.read 0xC100 == 0xF0#8 &&
    t.mem.read 0xC101 == 0xDF#8 && t.timer.cycles == 20) = true := by decide

/-- 95_test_vectors.md 2.2, `F9` with HL=D000. -/
theorem test_vector_f9_1 :
    after (cpuStep ((code [0xF9#8]).setPair .hl 0xD000#16)) (fun t => t.cpu.sp == 0xD000#16 && t.timer.cycles == 8)
    = true := by decide

/-- 95_test_vectors.md 2.2, `F8 08` with SP=FFF8, Z1 N1 H1 C1. -/
theorem test_vector_f808_1 :
    after (cpuStep (((code [0xF8#8, 0x08#8]).setSp 0xFFF8#16).setFlags ⟨true, true, true, true⟩)) (fun t => t.hl ==
    0x0000#16 && t.cpu.sp == 0xFFF8#16 && t.cpu.f == ⟨false, false, true, true⟩ && t.timer.cycles == 12) = true := by decide

/-- 95_test_vectors.md 2.2, `C5` with BC=1234. -/
theorem test_vector_c5_1 :
    after (cpuStep ((code [0xC5#8]).setPair .bc 0x1234#16)) (fun t => t.cpu.sp == 0xDFEE#16 && t.mem.read 0xDFEF ==
    0x12#8 && t.mem.read 0xDFEE == 0x34#8 && t.timer.cycles == 16) = true := by decide

/-- 95_test_vectors.md 2.2, `F5` with A=12, Z1 N0 H1 C1. -/
theorem test_vector_f5_1 :
    after (cpuStep (((code [0xF5#8]).setReg .a 0x12#8).setFlags ⟨true, false, true, true⟩)) (fun t => t.cpu.sp ==
    0xDFEE#16 && t.mem.read 0xDFEF == 0x12#8 && t.mem.read 0xDFEE == 0x0B#8 && t.timer.cycles == 16) = true := by decide

/-- 95_test_vectors.md 2.2, `D1` with SP=DFEE, [DFEE]=34, [DFEF]=12. -/
theorem test_vector_d1_1 :
    after (cpuStep ((((code [0xD1#8]).setSp 0xDFEE#16).withByte 0xDFEE 0x34#8).withByte 0xDFEF 0x12#8)) (fun t =>
    t.de == 0x1234#16 && t.cpu.sp == 0xDFF0#16 && t.timer.cycles == 12) = true := by decide

/-- 95_test_vectors.md 2.2, `F1` with SP=DFEE, [DFEE]=05, [DFEF]=AB. -/
theorem test_vector_f1_1 :
    after (cpuStep ((((code [0xF1#8]).setSp 0xDFEE#16).withByte 0xDFEE 0x05#8).withByte 0xDFEF 0xAB#8)) (fun t =>
    t.reg .a == 0xAB#8 && t.cpu.sp == 0xDFF0#16 && t.cpu.f == ⟨false, true, false, true⟩ && t.timer.cycles == 12) =
    true := by decide

/-- 95_test_vectors.md 2.3, `80` with A=0F, B=01, Z0 N1 H0 C0. -/
theorem test_vector_80_1 :
    after (cpuStep ((((code [0x80#8]).setReg .a 0x0F#8).setReg .b 0x01#8).setFlags ⟨false, true, false, false⟩))
    (fun t => t.reg .a == 0x10#8 && t.cpu.f == ⟨false, false, true, false⟩ && t.timer.cycles == 4) = true := by decide

/-- 95_test_vectors.md 2.3, `80` with A=FF, B=01, Z0 N1 H0 C0. -/
theorem test_vector_80_2 :
    after (cpuStep ((((code [0x80#8]).setReg .a 0xFF#8).setReg .b 0x01#8).setFlags ⟨false, true, false, false⟩))
    (fun t => t.reg .a == 0x00#8 && t.cpu.f == ⟨true, false, true, true⟩ && t.timer.cycles == 4) = true := by decide

/-- 95_test_vectors.md 2.3, `88` with A=E1, B=0F, C1. -/
theorem test_vector_88_3 :
    after (cpuStep ((((code [0x88#8]).setReg .a 0xE1#8).setReg .b 0x0F#8).setFlags ⟨false, false, false, true⟩))
    (fun t => t.reg .a == 0xF1#8 && t.cpu.f == ⟨false, false, true, false⟩ && t.timer.cycles == 4) = true := by decide

/-- 95_test_vectors.md 2.3, `90` with A=10, B=01. -/
theorem test_vector_90_2 :
    after (cpuStep (((code [0x90#8]).setReg .a 0x10#8).setReg .b 0x01#8)) (fun t => t.reg .a == 0x0F#8 && t.cpu.f ==
    ⟨false, true, true, false⟩ && t.timer.cycles == 4) = true := by decide

/-- 95_test_vectors.md 2.3, `98` with A=10, B=10, C1. -/
theorem test_vector_98_1 :
    after (cpuStep ((((code [0x98#8]).setReg .a 0x10#8).setReg .b 0x10#8).setFlags ⟨false, false, false, true⟩))
    (fun t => t.reg .a == 0xFF#8 && t.cpu.f == ⟨false, true, true, true⟩ && t.timer.cycles == 4) = true := by decide

/-- 95_test_vectors.md 2.3, `98` with A=00, B=FF, C1. -/
theorem test_vector_98_4 :
    after (cpuStep ((((code [0x98#8]).setReg .a 0x00#8).setReg .b 0xFF#8).setFlags ⟨false, false, false, true⟩))
    (fun t => t.reg .a == 0x00#8 && t.cpu.f == ⟨true, true, true, true⟩ && t.timer.cycles == 4) = true := by decide

/-- 95_test_vectors.md 2.3, `B8` with A=3C, B=2F. -/
theorem test_vector_b8_1 :
    after (cpuStep (((code [0xB8#8]).setReg .a 0x3C#8).setReg .b 0x2F#8)) (fun t => t.reg .a == 0x3C#8 && t.cpu.f ==
    ⟨false, true, true, false⟩ && t.timer.cycles == 4) = true := by decide

/-- 95_test_vectors.md 2.3, `86` with A=01, HL=C100, [C100]=0F. -/
theorem test_vector_86_1 :
    after (cpuStep ((((code [0x86#8]).setReg .a 0x01#8).setPair .hl 0xC100#16).withByte 0xC100 0x0F#8)) (fun t =>
    t.reg .a == 0x10#8 && t.cpu.f == ⟨false, false, true, false⟩ && t.timer.cycles == 8) = true := by decide

/-- 95_test_vectors.md 2.3, `CE 00` with A=FF, C1. -/
theorem test_vector_ce00_1 :
    after (cpuStep (((code [0xCE#8, 0x00#8]).setReg .a 0xFF#8).setFlags ⟨false, false, false, true⟩)) (fun t =>
    t.reg .a == 0x00#8 && t.cpu.f == ⟨true, false, true, true⟩ && t.timer.cycles == 8) = true := by decide

/-- 95_test_vectors.md 2.3, `DE FF` with A=00, C1. -/
theorem test_vector_deff_1 :
    after (cpuStep (((code [0xDE#8, 0xFF#8]).setReg .a 0x00#8).setFlags ⟨false, false, false, true⟩)) (fun t =>
    t.reg .a == 0x00#8 && t.cpu.f == ⟨true, true, true, true⟩ && t.timer.cycles == 8) = true := by decide

/-- 95_test_vectors.md 2.3, `A0` with A=5A, B=3F, Z0 N1 H0 C1. -/
theorem test_vector_a0_1 :
    after (cpuStep ((((code [0xA0#8]).setReg .a 0x5A#8).setReg .b 0x3F#8).setFlags ⟨false, true, false, true⟩)) (fun
    t => t.reg .a == 0x1A#8 && t.cpu.f == ⟨false, false, true, false⟩ && t.timer.cycles == 4) = true := by decide

/-- 95_test_vectors.md 2.3, `A8` with A=FF, B=0F, Z1 N1 H1 C1. -/
theorem test_vector_a8_1 :
    after (cpuStep ((((code [0xA8#8]).setReg .a 0xFF#8).setReg .b 0x0F#8).setFlags ⟨true, true, true, true⟩)) (fun t
    => t.reg .a == 0xF0#8 && t.cpu.f == ⟨false, false, false, false⟩ && t.timer.cycles == 4) = true := by decide

/-- 95_test_vectors.md 2.3, `B0` with A=50, B=0A, Z1 N1 H1 C1. -/
theorem test_vector_b0_2 :
    after (cpuStep ((((code [0xB0#8]).setReg .a 0x50#8).setReg .b 0x0A#8).setFlags ⟨true, true, true, true⟩)) (fun t
    => t.reg .a == 0x5A#8 && t.cpu.f == ⟨false, false, false, false⟩ && t.timer.cycles == 4) = true := by decide

/-- 95_test_vectors.md 2.3, `04` with B=0F, Z0 N1 H0 C1. -/
theorem test_vector_04_1 :
    after (cpuStep (((code [0x04#8]).setReg .b 0x0F#8).setFlags ⟨false, true, false, true⟩)) (fun t => t.reg .b ==
    0x10#8 && t.cpu.f == ⟨false, false, true, true⟩ && t.timer.cycles == 4) = true := by decide

/-- 95_test_vectors.md 2.3, `05` with B=00. -/
theorem test_vector_05_3 :
    after (cpuStep ((code [0x05#8]).setReg .b 0x00#8)) (fun t => t.reg .b == 0xFF#8 && t.cpu.f == ⟨false, true,
    true, false⟩ && t.timer.cycles == 4) = true := by decide

/-- 95_test_vectors.md 2.3, `34` with HL=C100, [C100]=FF, C1. -/
theorem test_vector_34_1 :
    after (cpuStep ((((code [0x34#8]).setPair .hl 0xC100#16).withByte 0xC100 0xFF#8).setFlags ⟨false, false, false,
    true⟩)) (fun t => t.mem.read 0xC100 == 0x00#8 && t.cpu.f == ⟨true, false, true, true⟩ && t.timer.cycles == 12) =
    true := by decide

/-- 95_test_vectors.md 2.3, `35` with HL=C100, [C100]=00. -/
theorem test_vector_35_1 :
    after (cpuStep (((code [0x35#8]).setPair .hl 0xC100#16).withByte 0xC100 0x00#8)) (fun t => t.mem.read 0xC100 ==
    0xFF#8 && t.cpu.f == ⟨false, true, true, false⟩ && t.timer.cycles == 12) = true := by decide

/-- 95_test_vectors.md 2.3, `27` with A=9A, N0 H0 C0. -/
theorem test_vector_27_2 :
    after (cpuStep (((code [0x27#8]).setReg .a 0x9A#8).setFlags ⟨false, false, false, false⟩)) (fun t => t.reg .a ==
    0x00#8 && t.cpu.f == ⟨true, false, false, true⟩ && t.timer.cycles == 4) = true := by decide

/-- 95_test_vectors.md 2.3, `27` with A=9A, N1 H1 C1. -/
theorem test_vector_27_12 :
    after (cpuStep (((code [0x27#8]).setReg .a 0x9A#8).setFlags ⟨false, true, true, true⟩)) (fun t => t.reg .a ==
    0x34#8 && t.cpu.f == ⟨false, true, false, true⟩ && t.timer.cycles == 4) = true := by decide

/-- 95_test_vectors.md 2.3, `2F` with A=35, Z1 N0 H0 C1. -/
theorem test_vector_2f_1 :
    after (cpuStep (((code [0x2F#8]).setReg .a 0x35#8).setFlags ⟨true, false, false, true⟩)) (fun t => t.reg .a ==
    0xCA#8 && t.cpu.f == ⟨true, true, true, true⟩ && t.timer.cycles == 4) = true := by decide

/-- 95_test_vectors.md 2.3, `37` with Z1 N1 H1 C0. -/
theorem test_vector_37_1 :
    after (cpuStep ((code [0x37#8]).setFlags ⟨true, true, true, false⟩)) (fun t => t.cpu.f == ⟨true, false, false,
    true⟩ && t.timer.cycles == 4) = true := by decide

/-- 95_test_vectors.md 2.3, `3F` with Z1 N1 H1 C1. -/
theorem test_vector_3f_1 :
    after (cpuStep ((code [0x3F#8]).setFlags ⟨true, true, true, true⟩)) (fun t => t.cpu.f == ⟨true, false, false,
    false⟩ && t.timer.cycles == 4) = true := by decide

/-- 95_test_vectors.md 2.4, `09` with HL=0FFF, BC=0001, Z1 N1 H0 C0. -/
theorem test_vector_09_1 :
    after (cpuStep ((((code [0x09#8]).setPair .hl 0x0FFF#16).setPair .bc 0x0001#16).setFlags ⟨true, true, false,
    false⟩)) (fun t => t.hl == 0x1000#16 && t.cpu.f == ⟨true, false, true, false⟩ && t.timer.cycles == 8) = true := by decide

/-- 95_test_vectors.md 2.4, `29` with HL=8A23. -/
theorem test_vector_29_1 :
    after (cpuStep ((code [0x29#8]).setPair .hl 0x8A23#16)) (fun t => t.hl == 0x1446#16 && t.cpu.f == ⟨false, false,
    true, true⟩ && t.timer.cycles == 8) = true := by decide

/-- 95_test_vectors.md 2.4, `E8 08` with SP=FFF8. -/
theorem test_vector_e808_1 :
    after (cpuStep ((code [0xE8#8, 0x08#8]).setSp 0xFFF8#16)) (fun t => t.cpu.sp == 0x0000#16 && t.cpu.f == ⟨false,
    false, true, true⟩ && t.timer.cycles == 16) = true := by decide

/-- 95_test_vectors.md 2.4, `03` with BC=FFFF, all clear. -/
theorem test_vector_03_1 :
    after (cpuStep ((code [0x03#8]).setPair .bc 0xFFFF#16)) (fun t => t.bc == 0x0000#16 && t.cpu.f == ⟨false, false,
    false, false⟩ && t.timer.cycles == 8) = true := by decide

/-- 95_test_vectors.md 2.4, `0B` with BC=0000, Z1 N1 H1 C1. -/
theorem test_vector_0b_1 :
    after (cpuStep (((code [0x0B#8]).setPair .bc 0x0000#16).setFlags ⟨true, true, true, true⟩)) (fun t => t.bc ==
    0xFFFF#16 && t.cpu.f == ⟨true, true, true, true⟩ && t.timer.cycles == 8) = true := by decide

/-- 95_test_vectors.md 2.5, `07` with A=E8, Z1 N1 H1 C0. -/
theorem test_vector_07_1 :
    after (cpuStep (((code [0x07#8]).setReg .a 0xE8#8).setFlags ⟨true, true, true, false⟩)) (fun t => t.reg .a ==
    0xD1#8 && t.cpu.f == ⟨false, false, false, true⟩ && t.timer.cycles == 4) = true := by decide

/-- 95_test_vectors.md 2.5, `0F` with A=01. -/
theorem test_vector_0f_1 :
    after (cpuStep ((code [0x0F#8]).setReg .a 0x01#8)) (fun t => t.reg .a == 0x80#8 && t.cpu.f == ⟨false, false,
    false, true⟩ && t.timer.cycles == 4) = true := by decide

/-- 95_test_vectors.md 2.5, `17` with A=95, C1. -/
theorem test_vector_17_2 :
    after (cpuStep (((code [0x17#8]).setReg .a 0x95#8).setFlags ⟨false, false, false, true⟩)) (fun t => t.reg .a ==
    0x2B#8 && t.cpu.f == ⟨false, false, false, true⟩ && t.timer.cycles == 4) = true := by decide

/-- 95_test_vectors.md 2.5, `1F` with A=81, C1. -/
theorem test_vector_1f_2 :
    after (cpuStep (((code [0x1F#8]).setReg .a 0x81#8).setFlags ⟨false, false, false, true⟩)) (fun t => t.reg .a ==
    0xC0#8 && t.cpu.f == ⟨false, false, false, true⟩ && t.timer.cycles == 4) = true := by decide

/-- 95_test_vectors.md 2.6, `C3 34 12` with nothing set. -/
theorem test_vector_c33412_1 :
    after (cpuStep (code [0xC3#8, 0x34#8, 0x12#8])) (fun t => t.cpu.pc == 0x1234#16 && t.timer.cycles == 16) = true := by decide

/-- 95_test_vectors.md 2.6, `C2 34 12` with Z1. -/
theorem test_vector_c23412_1 :
    after (cpuStep ((code [0xC2#8, 0x34#8, 0x12#8]).setFlags ⟨true, false, false, false⟩)) (fun t => t.cpu.pc ==
    0xC003#16 && t.timer.cycles == 12) = true := by decide

/-- 95_test_vectors.md 2.6, `E9` with HL=4567. -/
theorem test_vector_e9_1 :
    after (cpuStep ((code [0xE9#8]).setPair .hl 0x4567#16)) (fun t => t.cpu.pc == 0x4567#16 && t.timer.cycles == 4)
    = true := by decide

/-- 95_test_vectors.md 2.6, `18 80` with nothing set. -/
theorem test_vector_1880_1 :
    after (cpuStep (code [0x18#8, 0x80#8])) (fun t => t.cpu.pc == 0xBF82#16 && t.timer.cycles == 12) = true := by decide

/-- 95_test_vectors.md 2.6, `20 10` with Z0. -/
theorem test_vector_2010_2 :
    after (cpuStep ((code [0x20#8, 0x10#8]).setFlags ⟨false, false, false, false⟩)) (fun t => t.cpu.pc == 0xC012#16
    && t.timer.cycles == 12) = true := by decide

/-- 95_test_vectors.md 2.6, `CD 00 20` with nothing set. -/
theorem test_vector_cd0020_1 :
    after (cpuStep (code [0xCD#8, 0x00#8, 0x20#8])) (fun t => t.cpu.pc == 0x2000#16 && t.cpu.sp == 0xDFEE#16 &&
    t.mem.read 0xDFEF == 0xC0#8 && t.mem.read 0xDFEE == 0x03#8 && t.timer.cycles == 24) = true := by decide

/-- 95_test_vectors.md 2.6, `CC 00 20` with Z1. -/
theorem test_vector_cc0020_1 :
    after (cpuStep ((code [0xCC#8, 0x00#8, 0x20#8]).setFlags ⟨true, false, false, false⟩)) (fun t => t.cpu.pc ==
    0x2000#16 && t.cpu.sp == 0xDFEE#16 && t.mem.read 0xDFEF == 0xC0#8 && t.mem.read 0xDFEE == 0x03#8 &&
    t.timer.cycles == 24) = true := by decide

/-- 95_test_vectors.md 2.6, `C9` with SP=DFEE, [DFEE]=03, [DFEF]=C0. -/
theorem test_vector_c9_1 :
    after (cpuStep (((((code [0xC9#8]).setSp 0xDFEE#16).withByte 0xDFEE 0x03#8).withByte 0xDFEF 0xC0#8).setFlags
    ⟨false, false, false, false⟩)) (fun t => t.cpu.pc == 0xC003#16 && t.cpu.sp == 0xDFF0#16 && t.timer.cycles == 16)
    = true := by decide

/-- 95_test_vectors.md 2.6, `C0` with SP=DFEE, Z0, same stack. -/
theorem test_vector_c0_2 :
    after (cpuStep (((((code [0xC0#8]).setSp 0xDFEE#16).withByte 0xDFEE 0x03#8).withByte 0xDFEF 0xC0#8).setFlags
    ⟨false, false, false, false⟩)) (fun t => t.cpu.pc == 0xC003#16 && t.cpu.sp == 0xDFF0#16 && t.timer.cycles == 20)
    = true := by decide

/-- 95_test_vectors.md 2.6, `D9` with SP=DFEE, [DFEE]=50, [DFEF]=01, IME=0. -/
theorem test_vector_d9_1 :
    after (cpuStep (((((code [0xD9#8]).setSp 0xDFEE#16).withIrq 0#5 0#5 false).withByte 0xDFEE 0x50#8).withByte
    0xDFEF 0x01#8)) (fun t => t.cpu.pc == 0x0150#16 && t.cpu.sp == 0xDFF0#16 && t.irq.ime == true && t.timer.cycles
    == 16) = true := by decide

/-- 95_test_vectors.md 2.6, `EF` with nothing set. -/
theorem test_vector_ef_1 :
    after (cpuStep (code [0xEF#8])) (fun t => t.cpu.pc == 0x0028#16 && t.cpu.sp == 0xDFEE#16 && t.mem.read 0xDFEF ==
    0xC0#8 && t.mem.read 0xDFEE == 0x01#8 && t.timer.cycles == 16) = true := by decide

/-- 95_test_vectors.md 2.7, `CB 00` with B=85, Z1 N1 H1 C0. -/
theorem test_vector_cb00_1 :
    after (cpuStep (((code [0xCB#8, 0x00#8]).setReg .b 0x85#8).setFlags ⟨true, true, true, false⟩)) (fun t => t.reg
    .b == 0x0B#8 && t.cpu.f == ⟨false, false, false, true⟩ && t.timer.cycles == 8) = true := by decide

/-- 95_test_vectors.md 2.7, `CB 0E` with HL=C100, [C100]=00. -/
theorem test_vector_cb0e_1 :
    after (cpuStep (((code [0xCB#8, 0x0E#8]).setPair .hl 0xC100#16).withByte 0xC100 0x00#8)) (fun t => t.mem.read
    0xC100 == 0x00#8 && t.cpu.f == ⟨true, false, false, false⟩ && t.timer.cycles == 16) = true := by decide

/-- 95_test_vectors.md 2.7, `CB 12` with D=80, C1. -/
theorem test_vector_cb12_2 :
    after (cpuStep (((code [0xCB#8, 0x12#8]).setReg .d 0x80#8).setFlags ⟨false, false, false, true⟩)) (fun t =>
    t.reg .d == 0x01#8 && t.cpu.f == ⟨false, false, false, true⟩ && t.timer.cycles == 8) = true := by decide

/-- 95_test_vectors.md 2.7, `CB 1B` with E=8A, C1. -/
theorem test_vector_cb1b_2 :
    after (cpuStep (((code [0xCB#8, 0x1B#8]).setReg .e 0x8A#8).setFlags ⟨false, false, false, true⟩)) (fun t =>
    t.reg .e == 0xC5#8 && t.cpu.f == ⟨false, false, false, false⟩ && t.timer.cycles == 8) = true := by decide

/-- 95_test_vectors.md 2.7, `CB 24` with H=80. -/
theorem test_vector_cb24_2 :
    after (cpuStep ((code [0xCB#8, 0x24#8]).setReg .h 0x80#8)) (fun t => t.reg .h == 0x00#8 && t.cpu.f == ⟨true,
    false, false, true⟩ && t.timer.cycles == 8) = true := by decide

/-- 95_test_vectors.md 2.7, `CB 2D` with L=8A. -/
theorem test_vector_cb2d_1 :
    after (cpuStep ((code [0xCB#8, 0x2D#8]).setReg .l 0x8A#8)) (fun t => t.reg .l == 0xC5#8 && t.cpu.f == ⟨false,
    false, false, false⟩ && t.timer.cycles == 8) = true := by decide

/-- 95_test_vectors.md 2.7, `CB 3F` with A=FF. -/
theorem test_vector_cb3f_1 :
    after (cpuStep ((code [0xCB#8, 0x3F#8]).setReg .a 0xFF#8)) (fun t => t.reg .a == 0x7F#8 && t.cpu.f == ⟨false,
    false, false, true⟩ && t.timer.cycles == 8) = true := by decide

/-- 95_test_vectors.md 2.7, `CB 37` with A=F1, N1 H1 C1. -/
theorem test_vector_cb37_1 :
    after (cpuStep (((code [0xCB#8, 0x37#8]).setReg .a 0xF1#8).setFlags ⟨false, true, true, true⟩)) (fun t => t.reg
    .a == 0x1F#8 && t.cpu.f == ⟨false, false, false, false⟩ && t.timer.cycles == 8) = true := by decide

/-- 95_test_vectors.md 2.7, `CB 36` with HL=C100, [C100]=A5. -/
theorem test_vector_cb36_1 :
    after (cpuStep (((code [0xCB#8, 0x36#8]).setPair .hl 0xC100#16).withByte 0xC100 0xA5#8)) (fun t => t.mem.read
    0xC100 == 0x5A#8 && t.cpu.f == ⟨false, false, false, false⟩ && t.timer.cycles == 16) = true := by decide

/-- 95_test_vectors.md 2.7, `CB 7F` with A=80, N1 C1. -/
theorem test_vector_cb7f_1 :
    after (cpuStep (((code [0xCB#8, 0x7F#8]).setReg .a 0x80#8).setFlags ⟨false, true, false, true⟩)) (fun t => t.reg
    .a == 0x80#8 && t.cpu.f == ⟨false, false, true, true⟩ && t.timer.cycles == 8) = true := by decide

/-- 95_test_vectors.md 2.7, `CB 46` with HL=C100, [C100]=01. -/
theorem test_vector_cb46_1 :
    after (cpuStep (((code [0xCB#8, 0x46#8]).setPair .hl 0xC100#16).withByte 0xC100 0x01#8)) (fun t => t.cpu.f ==
    ⟨false, false, true, false⟩ && t.timer.cycles == 12) = true := by decide

/-- 95_test_vectors.md 2.7, `CB 87` with A=FF, Z1 N1 H1 C1. -/
theorem test_vector_cb87_1 :
    after (cpuStep (((code [0xCB#8, 0x87#8]).setReg .a 0xFF#8).setFlags ⟨true, true, true, true⟩)) (fun t => t.reg
    .a == 0xFE#8 && t.cpu.f == ⟨true, true, true, true⟩ && t.timer.cycles == 8) = true := by decide

/-- 95_test_vectors.md 2.7, `CB BE` with HL=C100, [C100]=FF. -/
theorem test_vector_cbbe_1 :
    after (cpuStep (((code [0xCB#8, 0xBE#8]).setPair .hl 0xC100#16).withByte 0xC100 0xFF#8)) (fun t => t.mem.read
    0xC100 == 0x7F#8 && t.cpu.f == ⟨false, false, false, false⟩ && t.timer.cycles == 16) = true := by decide

/-- 95_test_vectors.md 2.7, `CB C0` with B=00, Z1 H1. -/
theorem test_vector_cbc0_1 :
    after (cpuStep (((code [0xCB#8, 0xC0#8]).setReg .b 0x00#8).setFlags ⟨true, false, true, false⟩)) (fun t => t.reg
    .b == 0x01#8 && t.cpu.f == ⟨true, false, true, false⟩ && t.timer.cycles == 8) = true := by decide

/-- 95_test_vectors.md 2.7, `CB DE` with HL=C100, [C100]=00. -/
theorem test_vector_cbde_1 :
    after (cpuStep (((code [0xCB#8, 0xDE#8]).setPair .hl 0xC100#16).withByte 0xC100 0x00#8)) (fun t => t.mem.read
    0xC100 == 0x08#8 && t.timer.cycles == 16) = true := by decide

/-- 95_test_vectors.md 2.8, `00` with nothing set. -/
theorem test_vector_00_1 :
    after (cpuStep (code [0x00#8])) (fun t => t.cpu.pc == 0xC001#16 && t.timer.cycles == 4) = true := by decide

/-- 95_test_vectors.md 2.8, `76` with nothing set. -/
theorem test_vector_76_1 :
    after (cpuStep (code [0x76#8])) (fun t => t.cpu.pc == 0xC001#16 && t.cpu.halted == true && t.timer.cycles == 4)
    = true := by decide

/-- 95_test_vectors.md 2.8, `F3` with IME=1. -/
theorem test_vector_f3_1 :
    after (cpuStep ((code [0xF3#8]).withIrq 0#5 0#5 true)) (fun t => t.irq.ime == false && t.timer.cycles == 4) =
    true := by decide

/-- 95_test_vectors.md 2.8, `FB` with IME=0. -/
theorem test_vector_fb_1 :
    after (cpuStep ((code [0xFB#8]).withIrq 0#5 0#5 false)) (fun t => t.irq.ime == true && t.timer.cycles == 4) =
    true := by decide

/-- 95_test_vectors.md 2.8, `10 00` with nothing set. -/
theorem test_vector_1000_1 :
    after (cpuStep (code [0x10#8, 0x00#8])) (fun t => t.cpu.pc == 0xC001#16 && t.stopped == some .stopNotModelled &&
    t.timer.cycles == 4) = true := by decide

/-- 95_test_vectors.md 2.8, `D3` with nothing set. -/
theorem test_vector_d3_1 :
    after (cpuStep (code [0xD3#8])) (fun t => t.cpu.pc == 0xC001#16 && t.stopped == some (.unknownOpcode 0xD3#8
    0xC000#16) && t.timer.cycles == 4) = true := by decide

/-- 95_test_vectors.md 2.8, `FD` with nothing set. -/
theorem test_vector_fd_1 :
    after (cpuStep (code [0xFD#8])) (fun t => t.cpu.pc == 0xC001#16 && t.stopped == some (.unknownOpcode 0xFD#8
    0xC000#16) && t.timer.cycles == 4) = true := by decide

/-- 95_test_vectors.md 2.10, I1: the entry of the vblank interrupt. -/
theorem test_dispatch_i1 :
    (let t := dispatch (((code []).setPc 0xC123#16).withIrq 0x05#5 0x05#5 true)
     t.irq == ⟨0x04#5, 0x05#5, false⟩ && t.cpu.pc == 0x0040#16 && t.cpu.sp == 0xDFEE#16 && t.mem.read 0xDFEF == 0xC1#8
       && t.mem.read 0xDFEE == 0x23#8 && t.timer.cycles == 20) = true := by decide

/-- 95_test_vectors.md 2.10, I10: the pushed PC falls on ROM and on IE. -/
theorem test_dispatch_i10 :
    (let t := dispatch ((((code []).setPc 0xC123#16).setSp 0x0001#16).withIrq 0x01#5 0x01#5 true)
     t.irq == ⟨0x00#5, 0x03#5, false⟩ && t.cpu.pc == 0x0040#16 && t.cpu.sp == 0xFFFF#16) = true := by decide

/-- A halted CPU. -/
def State.asleep (s : State) : State := { s with cpu := { s.cpu with halted := true } }

/-- 95_test_vectors.md 2.10, I4: woken without a redirection, the request consumed. -/
theorem test_dispatch_i4 :
    (let t := dispatch ((((code []).setPc 0xC123#16).withIrq 0x04#5 0x04#5 false).asleep)
     t.irq == ⟨0x00#5, 0x04#5, false⟩ && t.cpu.pc == 0xC123#16 && !t.cpu.halted && t.timer.cycles == 0) = true := by decide

/-- The timer written directly. -/
def State.withTimer (s : State) (cycles : Nat) (tima tma : Byte) (tac : BitVec 3) : State :=
  { s with timer := { s.timer with cycles := cycles, tima := tima, tma := tma, tac := tac } }

/-- 95_test_vectors.md 2.11, T2: the reload and the one request, in the tick of the overflow. -/
theorem test_timer_t2 :
    (let t := tick 16 ((code []).withTimer 0 0xFF#8 0xAB#8 0x5#3)
     t.timer.tima == 0xAB#8 && t.irq.requested == 0x04#5) = true := by decide

/-- 95_test_vectors.md 2.11, T5: the phase of the counter is absolute. -/
theorem test_timer_t5 :
    (let t := tick 24 ((code []).withTimer 1000 0x00#8 0x00#8 0x4#3)
     t.timer.tima == 0x01#8 && (tick 20 ((code []).withTimer 1000 0x00#8 0x00#8 0x4#3)).timer.tima == 0x00#8) = true := by
  decide

/-- 95_test_vectors.md 2.10, I12 and I13: what the interrupt registers keep and read as. -/
theorem test_interrupt_registers :
    (memPeek 0xFF0F#16 (memWrite 0xFF0F#16 0xFF#8 (code [])) == some 0xFF#8
      && memPeek 0xFF0F#16 (memWrite 0xFF0F#16 0x00#8 (code [])) == some 0xE0#8
      && memPeek 0xFFFF#16 (memWrite 0xFFFF#16 0xFF#8 (code [])) == some 0x1F#8) = true := by decide

/-- The picture generator put at a place. -/
def State.atPlace (s : State) (ly : Byte) (m : Mode) (c : Nat) : State :=
  { s with ppu := { s.ppu with ly := ly, mode := m, lineCycle := c } }

/-- 95_test_vectors.md 2.12, P1: cycle 4, the line compare computed. -/
theorem test_ppu_p1_compare :
    (let t := ppuStep 4 (code [])
     t.ppu.lineCycle == 4 && t.ppu.mode == .search && statByte t.ppu == 0x86#8) = true := by decide

/-- 95_test_vectors.md 2.12, P1: cycle 65664, the entry into VBlank. -/
theorem test_ppu_p1_vblank :
    (let t := ppuStep 4 ((code []).atPlace 143#8 .hblank 452)
     t.ppu.ly == 144#8 && t.ppu.mode == .vblank && t.ppu.lineCycle == 0 && t.irq.requested == 0x01#5
       && t.ppu.frameReady && statByte t.ppu == 0x81#8) = true := by decide

/-- 95_test_vectors.md 2.12, P1: cycle 70224, the next frame. -/
theorem test_ppu_p1_frame :
    (let t := ppuStep 4 ((code []).atPlace 153#8 .vblank 452)
     t.ppu.ly == 0#8 && t.ppu.mode == .search && statByte t.ppu == 0x86#8) = true := by decide

/-- The set-up R of 95_test_vectors.md 2.13 on line 1, with the sprite's flags. -/
def setupR (flags : Byte) : State :=
  let rows := fun (a b : Byte) => [a, b, a, b, a, b, a, b, a, b, a, b, a, b, a, b]
  let s := (code []).atPlace 1#8 .transfer 252
  { s with
    mem := placeBytes [0x11#8, 0x0C#8, 0x01#8, flags] 0xFE00
      (placeBytes (rows 0x3C#8 0x7E#8 ++ rows 0xFF#8 0x00#8) 0x8000 [])
    ppu := { s.ppu with lcdc := 0x93#8, bgp := 0xE4#8, obp0 := 0x1B#8, obp1 := 0xE4#8, visible := [0] } }

/-- 95_test_vectors.md 2.13: line 1, flags 00. -/
theorem test_picture_sprite :
    (List.range 16).map (fun x => (pixelShade (setupR 0x00#8) x).toNat) = [0, 2, 3, 3, 2, 2, 2, 2, 2, 2, 2, 2, 3, 3, 2, 0]
      := by decide

/-- 95_test_vectors.md 2.13: line 1, flags 80, the sprite only where the background index is 0. -/
theorem test_picture_priority :
    (List.range 16).map (fun x => (pixelShade (setupR 0x80#8) x).toNat) = [0, 2, 3, 3, 3, 3, 2, 2, 2, 2, 3, 3, 3, 3, 2, 0]
      := by decide

/-- The set-up R with LCDC, SCX, WX and WY written, on line 0. -/
def setupW (lcdc scx wx wy : Byte) : State :=
  let s := setupR 0x00#8
  { s with ppu := { s.ppu with ly := 0#8, lcdc := lcdc, scx := scx, wx := wx, wy := wy, visible := [] } }

/-- 95_test_vectors.md 2.13: line 0, SCX=03. -/
theorem test_picture_scroll :
    (List.range 16).map (fun x => (pixelShade (setupW 0x93#8 0x03#8 0x00#8 0x00#8) x).toNat)
      = [3, 3, 3, 2, 0, 0, 2, 3, 3, 3, 3, 2, 0, 0, 2, 3] := by decide

/-- 95_test_vectors.md 2.13: line 0, LCDC=81, tile 0 at vram 1000, its row 0 `F0 0F`. -/
theorem test_picture_signed :
    (let s := ((setupW 0x81#8 0x00#8 0x00#8 0x00#8).withByte 0x9000 0xF0#8).withByte 0x9001 0x0F#8
     (List.range 8).map fun x => (pixelShade s x).toNat) = [1, 1, 1, 1, 2, 2, 2, 2] := by decide

/-- 95_test_vectors.md 2.13: line 0, LCDC=F1, WX=0B, WY=00, the row 0 of tile 2 and the window map of the columns. -/
theorem test_picture_window :
    (let s := { setupW 0xF1#8 0x00#8 0x0B#8 0x00#8 with
        mem := placeBytes [0x02#8, 0x02#8] 0x9C00
          (placeBytes [0xFF#8, 0xFF#8] 0x8020 (setupW 0xF1#8 0x00#8 0x0B#8 0x00#8).mem) }
     (List.range 12).map fun x => (pixelShade s x).toNat) = [0, 2, 3, 3, 3, 3, 3, 3, 3, 3, 3, 3] := by decide

/-- 95_test_vectors.md 2.13: line 1, sprite 0 with y 09 is there with 16 lines and not with 8. -/
theorem test_picture_tall :
    (let s := (setupR 0x00#8).withByte 0xFE00 0x09#8
     ((spriteSearch { s with ppu := { s.ppu with lcdc := 0x97#8 } }).ppu.visible, (spriteSearch s).ppu.visible))
      = ([0], []) := by decide

/-- 95_test_vectors.md 2.13: sprites 0 and 1 on line 1, sorted by x. -/
theorem test_picture_search :
    (spriteSearch (((((setupR 0x00#8).withByte 0xFE04 0x11#8).withByte 0xFE05 0x0A#8).withByte 0xFE06 0x01#8))).ppu.visible
      = [1, 0] := by decide

/-- 95_test_vectors.md 2.14, D1: a delta of 12 cycles copies three bytes. -/
theorem test_dma_d1 :
    (let t := dmaAdvance 12 (memWrite 0xFF46#16 0xC0#8 (code [0x01#8, 0x02#8, 0x03#8, 0x04#8]))
     t.oam 0 == 0x01#8 && t.oam 2 == 0x03#8 && t.oam 3 == 0x00#8 && t.dma.index == 3 && t.dma.active
       && memPeek 0xFF46#16 t == some 0xC0#8) = true := by decide

/-- 95_test_vectors.md 2.14, D1: the whole step of `LDH (46),A` with A=C0 in ROM, its 12 cycles of DMA at its end. -/
theorem test_step_dma_d1 :
    (let s := State.resetWith [] (.romOnly (placeBytes [0xE0#8, 0x46#8] 0 [])) []
     after (step { s with
        mem := placeBytes [0x01#8, 0x02#8, 0x03#8, 0x04#8] 0xC000 []
        cpu := { s.cpu with a := 0xC0#8 } })
      fun t => t.oam 0 == 0x01#8 && t.oam 1 == 0x02#8 && t.oam 2 == 0x03#8 && t.oam 3 == 0x00#8 && t.dma.index == 3
        && t.dma.active && t.timer.cycles == 12) = true := by decide

/-- 95_test_vectors.md 2.12, P1, at cycle 65664: the step of a `NOP` that ends line 143 enters VBlank of line 144. -/
theorem test_step_vblank_p1 :
    after (step ((code [0x00#8]).atPlace 143#8 .hblank 452))
      (fun t => t.ppu.ly == 144#8 && t.ppu.mode == .vblank && t.irq.requested == 0x01#5 && t.ppu.frameReady
        && statByte t.ppu == 0x81#8) = true := by decide

/-- 95_test_vectors.md 2.13: the step of a `NOP` that reaches HBlank of line 1 draws the line (flags 00). -/
theorem test_step_render :
    (let s := (setupR 0x00#8).atPlace 1#8 .transfer 248
     after (step { s with mem := placeBytes [0x00#8] 0xC000 s.mem }) fun t =>
       t.ppu.mode == .hblank && t.ppu.fbDraw.get 161 == 2#2 && t.ppu.fbDraw.get 162 == 3#2
         && t.ppu.fbDraw.get 164 == 2#2 && t.ppu.fbDraw.get 168 == 2#2 && t.ppu.fbDraw.get 172 == 3#2) = true := by
  decide

/-- A table with one read-write region of 0x2000 bytes at 0xC000 (95_test_vectors.md 2.9, B2). -/
def oneRegion : RegionTable Backing := [⟨0xC000, 0x2000, .readWrite, .buffer⟩]

/-- 95_test_vectors.md 2.9, B2: an overlap is refused, a neighbour is not, and `unmap` wants the start. -/
theorem test_region_b2 :
    (match oneRegion.map ⟨0xDFFF, 1, .readOnly, .ext⟩ with | .error e => e == .mapConflict | .ok _ => false) = true ∧
    (match oneRegion.map ⟨0xE000, 1, .readOnly, .ext⟩ with | .error _ => false | .ok t => t.length == 2) = true ∧
    (match oneRegion.unmap 0xC001 with | .error e => e == .notMapped | .ok _ => false) = true := by decide

/-- 20_memory.md R105, D15: `remap` wants the same start, capability and length, and `unmap` of a shared start removes
the region of the read space. -/
theorem test_region_remap_unmap :
    (match oneRegion.remap ⟨0xC000, 0x2000, .readWrite, .ext⟩ with
      | .ok t => t == [⟨0xC000, 0x2000, .readWrite, .ext⟩] | .error _ => false) = true ∧
    (match oneRegion.remap ⟨0xC000, 0x1000, .readWrite, .ext⟩ with | .error e => e == .notMapped | .ok _ => false) = true ∧
    (match RegionTable.unmap [⟨0x0000, 0x8000, .writeOnly, .ext⟩, ⟨0x0000, 0x4000, .readOnly, .ext⟩] 0 with
      | .ok t => t == ([⟨0x0000, 0x8000, .writeOnly, .ext⟩] : RegionTable Backing) | .error _ => false) = true := by
  decide

/-- 20_memory.md R111: a write to ROM with no banking controller is an unmapped-write; with one it is not. -/
theorem test_write_to_rom :
    memWrite? 0x7FFF#16 0x01#8 (code []) = none ∧ (memWrite? 0x8000#16 0x01#8 (code [])).isSome = true ∧
    (memWrite? 0x7FFF#16 0x01#8 { code [] with ext := .oracle [] }).isSome = true := by decide

/-- 70_reset_and_hazards.md R560: a reset between steps takes the machine out of the stopped state. -/
theorem test_reset_restarts :
    (let t := betweenSteps { code [] with stopped := some .stopNotModelled, inputs := [[.reset], [.consumeFrame]] }
     t.stopped == none && t.cpu.pc == 0x0000#16 && t.cpu.sp == 0xFFFF#16 && t.inputs == [[.consumeFrame]]) = true := by
  decide

/-- 95_test_vectors.md Part 3, program 1: its first step runs `LD BC,0x2211` at 0000, 12 cycles. -/
theorem test_step_program_1 :
    after (step (State.resetWith [] (.romOnly (placeBytes [0x01#8, 0x11#8, 0x22#8] 0 [])) []))
      (fun t => t.bc == 0x2211#16 && t.cpu.pc == 0x0003#16 && t.timer.cycles == 12 && t.ppu.lineCycle == 12) = true := by
  decide

/-- 95_test_vectors.md 2.9, B3: the overlay answers at 0000 while it is mapped, the cartridge after the write to FF50. -/
theorem test_overlay_b3 :
    (let s := State.resetWith [0x3E#8, 0x01#8] (.romOnly []) []
     memPeek 0x0000#16 s == some 0x3E#8 && memPeek 0x0002#16 s == some 0x00#8
       && memPeek 0x0000#16 (memWrite 0xFF50#16 0x01#8 s) == some 0x00#8
       && memPeek 0x0000#16 (memWrite 0xFF50#16 0x00#8 s) == some 0x3E#8) = true := by decide

/-- The host's word runs as the first instruction after reset: `LD A,0x9A` (41_load8.md R202; log entry 7). -/
theorem test_withFetchWord :
    after (step (State.reset.withFetchWord 16 0x9A3E)) (fun t => t.cpu.a == 0x9A#8 && t.timer.cycles == 8) = true := by
  decide

/-! Witnesses. -/

/-- The state of the vectors keeps its storage in canonical form. -/
theorem code_storageOk (bs : List Byte) (h : (placeBytes bs 0xC000 []).wf = true)
    (k : ∀ e ∈ placeBytes bs 0xC000 [], bufferAddress e.1 = true) : (code bs).StorageOk :=
  ⟨h, k, rfl, fun _ h => absurd h List.not_mem_nil, rfl, rfl⟩

/-- The invariant holds of a state that is not the reset state. -/
theorem code_inv : (code [0x04#8]).Inv :=
  ⟨code_storageOk _ (by decide) (by decide), ⟨by decide, by decide, by decide, by decide, by decide⟩,
    ⟨by decide, by decide, by decide, by decide⟩, ⟨by decide, by decide, by decide, by decide⟩, ⟨by decide, by decide⟩⟩

theorem witness_DecodeOfEncode : Instr.WellFormed (.jpA16 0x1234#16) := by decide

theorem witness_EncodeOfDecode : ∃ (bs rest : List Byte) (i : Instr), decode bs = .ok (i, rest) :=
  ⟨[0x04#8, 0x05#8], _, _, rfl⟩

theorem witness_EncodeOfDecode_short :
    (∃ e, decode [0x01#8, 0x11#8] = .error e) ∧ [0x11#8].length + 1 < fetchedLength 0x01#8 := ⟨⟨_, rfl⟩, by decide⟩

theorem witness_StepRunsDecoded : ∃ (s : State) (i : Instr) (rest : List Byte), s.bootImage.length ≤ 256 ∧
    (betweenSteps s).stopped = none ∧ (atFetch s).cpu.halted = false ∧
    decode (fetchInstr (atFetch s)).1 = .ok (i, rest) :=
  ⟨code [0x04#8], .incB, [], by decide, by decide, by decide, rfl⟩

theorem witness_FetchReadsAtPc : ∃ (s : State) (op : Byte), op = readValue s.cpu.pc s ∧ 3 ≤ fetchedLength op :=
  ⟨code [0xC3#8, 0x34#8, 0x12#8], 0xC3#8, by decide, by decide⟩

/-- The last addresses at which three bytes of code fit. -/
theorem witness_StepRunsCodeInMemory : ∃ (s : State) (i : Instr) (rest : List Byte), s.bootImage.length ≤ 256 ∧
    s.inputs = [] ∧ s.stopped = none ∧ s.cpu.halted = false ∧ s.irq.ime = false ∧ s.cpu.pc.toNat + 2 < 65536 ∧
    (∀ k, k < 3 → bufferAddress (s.cpu.pc.toNat + k) = true) ∧
    decode [s.mem.read s.cpu.pc.toNat, s.mem.read (s.cpu.pc.toNat + 1), s.mem.read (s.cpu.pc.toNat + 2)]
      = .ok (i, rest) :=
  ⟨((code []).setPc 0xFFFC#16).withByte 0xFFFC 0x04#8, .incB, [0x00#8, 0x00#8], by decide, rfl, rfl, rfl, rfl, by decide,
    by decide, rfl⟩

theorem witness_HaltedStep : ∃ s t : State,
    (s.bootImage.length ≤ 256 ∧ s.inputs = [] ∧ s.stopped = none ∧ s.cpu.halted = true ∧
      s.irq.requested &&& s.irq.enabled = 0#5) ∧
    (t.bootImage.length ≤ 256 ∧ t.inputs = [] ∧ t.stopped = none ∧ t.cpu.halted = true ∧
      t.irq.requested &&& t.irq.enabled ≠ 0#5) :=
  ⟨((code []).withIrq 0x04#5 0x01#5 true).asleep, ((code []).withIrq 0x10#5 0x1F#5 false).asleep, by decide, by decide⟩

theorem witness_StoppedIsTerminal : ∃ s : State, s.bootImage.length ≤ 256 ∧ s.inputs = [] ∧ s.stopped ≠ none :=
  ⟨raiseFatal .stopNotModelled (code []), by decide⟩

theorem witness_FatalByteEndsTheStep : ∃ s t : State,
    (s.bootImage.length ≤ 256 ∧ s.inputs = [] ∧ s.stopped = none ∧ s.cpu.halted = false ∧ s.irq.ime = false ∧
      bufferAddress s.cpu.pc.toNat = true ∧ s.mem.read s.cpu.pc.toNat = 0x10#8) ∧
    (t.bootImage.length ≤ 256 ∧ t.inputs = [] ∧ t.stopped = none ∧ t.cpu.halted = false ∧ t.irq.ime = false ∧
      bufferAddress t.cpu.pc.toNat = true ∧ (.illegalFD, t.mem.read t.cpu.pc.toNat) ∈ unassignedRows) :=
  ⟨code [0x10#8], code [0xFD#8], by decide, by decide⟩

theorem witness_StepAnswers : (code []).bootImage.length ≤ 256 ∧
    256 < (State.resetWith (List.replicate 257 0x00#8) (.romOnly []) []).bootImage.length := by decide

theorem witness_ResetMeetsInvariant : ∃ (image : List Byte) (ext : ExtDevice) (ins : List (List HostEvent)),
    image.length ≤ 256 ∧ image ≠ [] ∧ ext.rom.wf = true ∧ ins ≠ [] ∧ ∀ acts ∈ ins, ∀ e ∈ acts, e.wf := by
  refine ⟨List.replicate 256 0x76#8, .romOnly [(3, 0x76#8)], [[.requestSerial]], by decide, by decide, by decide, by decide,
    fun acts ha e he => ?_⟩
  rw [List.mem_singleton] at ha
  subst ha
  rw [List.mem_singleton] at he
  subst he
  trivial

theorem witness_StepKeepsInvariant : ∃ s t : State, s.Inv ∧ step s = .next t := ⟨code [0x04#8], _, code_inv, rfl⟩

theorem witness_WithFetchWordRuns : ∃ (s : State) (nbits w : Nat) (i : Instr), s.StorageOk ∧
    s.bootImage.length ≤ 256 ∧ decodeTableWord nbits w = some i :=
  ⟨code [], 24, 0x1234C3, .jpA16 0x1234#16, code_storageOk _ rfl (by decide), by decide, by decide⟩

theorem witness_InstructionCycles : ∃ (s t : State) (i : Instr) (rest : List Byte), s.cpu.halted = false ∧
    decode (fetchInstr s).1 = .ok (i, rest) ∧ cpuStep s = .next t :=
  ⟨code [0xCD#8, 0x00#8, 0x20#8], _, .callA16 0x2000#16, [], rfl, rfl, rfl⟩

theorem witness_StepClockBounds : ∃ s t : State, s.inputs = [] ∧ s.stopped = none ∧ step s = .next t :=
  ⟨code [0x00#8], _, rfl, rfl, rfl⟩

/-- `ADD SP,0xFF` with SP = 0000 (95_test_vectors.md 2.4). -/
theorem witness_SpRelative : ∃ (e : Byte) (s : State) (sum : Word) (fl : Flags),
    sum = BitVec.ofInt 16 (s.cpu.sp.toNat + e.toInt) ∧
    fl = { z := false
           n := false
           h := decide (s.cpu.sp.toNat % 16 + e.toNat % 16 > 15)
           c := decide (s.cpu.sp.toNat % 256 + e.toNat > 255) } :=
  ⟨0xFF#8, (code []).setSp 0x0000#16, 0xFFFF#16, ⟨false, false, false, false⟩, by decide, by decide⟩

theorem witness_PushThenPop : ∃ s t u : State, s.StorageOk ∧ s.bootImage.length ≤ 256 ∧
    bufferAddress (s.cpu.sp - 1#16).toNat = true ∧ bufferAddress (s.cpu.sp - 2#16).toNat = true ∧
    exec (.mkPush .bc) s = .next t ∧ exec (.mkPop .af) t = .next u :=
  ⟨code [], _, _, code_storageOk _ rfl (by decide), by decide, by decide, by decide, rfl, rfl⟩

/-- Registers written: A, B and the flags. -/
def State.withAb (s : State) (a b : Byte) (f : Flags) : State := ((s.setReg .a a).setReg .b b).setFlags f

theorem witness_AddAndAdc : ∃ (op : AluOp) (o : AluSource) (s : State) (cin sum : Nat), (op = .add ∨ op = .adc) ∧
    cin = (if op = .adc then s.cpu.f.c.toNat else 0) ∧ sum = s.cpu.a.toNat + (o.value s).toNat + cin :=
  ⟨.adc, .reg .b, (code []).withAb 0xFF#8 0xFF#8 ⟨false, false, false, true⟩, 1, 511, .inr rfl, by decide, by decide⟩

theorem witness_SubSbcAndCp : ∃ (op : AluOp) (o : AluSource) (s : State) (bin diff : Int),
    (op = .sub ∨ op = .sbc ∨ op = .cp) ∧ bin = (if op = .sbc then (s.cpu.f.c.toNat : Int) else 0) ∧
    diff = (s.cpu.a.toNat : Int) - (o.value s).toNat - bin :=
  ⟨.sbc, .imm 0xFF#8, (code []).withAb 0x00#8 0x00#8 ⟨false, false, false, true⟩, 1, -256, .inr (.inl rfl), by decide,
    by decide⟩

theorem witness_AndXorAndOr : ∃ op : AluOp, op = .and ∨ op = .xor ∨ op = .or := ⟨.xor, .inr (.inl rfl)⟩

theorem witness_IncAndDec : ∃ (o : Place) (s : State) (v : Nat), v = (o.value s).toNat ∧ v = 255 :=
  ⟨.reg .a, (code []).withAb 0xFF#8 0x00#8 ⟨false, false, false, false⟩, 255, by decide⟩

theorem witness_DecimalAdjust : ∃ (s : State) (low high : Nat),
    low = (if s.cpu.f.h = true ∨ (s.cpu.f.n = false ∧ s.cpu.a.toNat % 16 > 9) then 0x06 else 0) ∧
    high = (if s.cpu.f.c = true ∨ (s.cpu.f.n = false ∧ s.cpu.a.toNat > 0x99) then 0x60 else 0) ∧ low ≠ 0 ∧ high ≠ 0 :=
  ⟨(code []).withAb 0x9A#8 0x00#8 ⟨false, false, false, false⟩, 0x06, 0x60, by decide⟩

theorem witness_DecimalArithmetic : ∃ (x y : Nat) (s t u : State), x < 100 ∧ y < 100 ∧ s.cpu.a = packedDecimal x ∧
    s.cpu.b = packedDecimal y ∧ exec .addAB s = .next t ∧ exec .daa t = .next u :=
  ⟨99, 1, (code []).withAb 0x99#8 0x01#8 ⟨false, false, false, false⟩, _, _, by decide, by decide, by decide, by decide,
    rfl, rfl⟩

theorem witness_DecimalArithmetic_sub : ∃ (x y : Nat) (s t u : State), x < 100 ∧ y < 100 ∧ s.cpu.a = packedDecimal x ∧
    s.cpu.b = packedDecimal y ∧ exec .subB s = .next t ∧ exec .daa t = .next u :=
  ⟨15, 42, (code []).withAb 0x15#8 0x42#8 ⟨false, false, false, false⟩, _, _, by decide, by decide, by decide, by decide,
    rfl, rfl⟩

theorem witness_AccumulatorRotates : ∃ (i : Instr) (op : RotOp),
    (i = .rlca ∧ op = .rlc) ∨ (i = .rrca ∧ op = .rrc) ∨ (i = .rla ∧ op = .rl) ∨ (i = .rra ∧ op = .rr) :=
  ⟨.rla, .rl, .inr (.inr (.inl ⟨rfl, rfl⟩))⟩

theorem witness_conditions : ∀ cc : Cond, ∃ f g : Flags, f.holds cc = true ∧ g.holds cc = false
  | .nz => ⟨⟨false, false, false, false⟩, ⟨true, false, false, false⟩, rfl, rfl⟩
  | .z => ⟨⟨true, false, false, false⟩, ⟨false, false, false, false⟩, rfl, rfl⟩
  | .nc => ⟨⟨false, false, false, false⟩, ⟨false, false, false, true⟩, rfl, rfl⟩
  | .c => ⟨⟨false, false, false, true⟩, ⟨false, false, false, false⟩, rfl, rfl⟩

/-- For `Jumps`, `Calls` and `Returns`: states in which a condition holds and does not hold. -/
theorem witness_Jumps_Calls_Returns : ∃ (cc : Cond) (s t : State), s.cpu.f.holds cc = true ∧ t.cpu.f.holds cc = false :=
  ⟨.nz, code [], (code []).withAb 0x00#8 0x00#8 ⟨true, false, false, false⟩, rfl, rfl⟩

/-- The lowest and the highest priority, with and without the global enable, and the two cases of no dispatch. -/
theorem witness_DispatchCases : ∃ s t u v : State,
    (s.irq.ime = false ∧ s.cpu.halted = false) ∧ t.irq.requested &&& t.irq.enabled = 0#5 ∧
    ((u.irq.requested &&& u.irq.enabled).getLsbD (cfg.irqBit .joypad) = true ∧
      (∀ j, j < cfg.irqBit .joypad → (u.irq.requested &&& u.irq.enabled).getLsbD j = false) ∧
      u.irq.ime = false ∧ u.cpu.halted = true) ∧
    ((v.irq.requested &&& v.irq.enabled).getLsbD (cfg.irqBit .vblank) = true ∧
      (∀ j, j < cfg.irqBit .vblank → (v.irq.requested &&& v.irq.enabled).getLsbD j = false) ∧ v.irq.ime = true) :=
  ⟨code [], code [], ((code []).withIrq 0x1F#5 0x10#5 false).asleep, (code []).withIrq 0x1F#5 0x1F#5 true, by decide⟩

theorem witness_TickCounts : ∃ (n m : Nat) (s t u : State), s.timer.tac.getLsbD 2 = false ∧
    (t.timer.tac.getLsbD 2 = true ∧
      m = (t.timer.cycles + n) / timerPeriod t - t.timer.cycles / timerPeriod t ∧ t.timer.tima.toNat + m ≤ 255 ∧
      m ≠ 0) ∧
    (u.timer.tac.getLsbD 2 = true ∧ (u.timer.cycles + 1) % timerPeriod u = 0 ∧ u.timer.tima = 0xFF#8) :=
  ⟨24, 1, code [], (code []).withTimer 1000 0xFE#8 0x00#8 0x4#3, (code []).withTimer 15 0xFF#8 0xAB#8 0x5#3, by decide⟩

/-- For `Divider`, `RegisterViews`, `ReadsAndUnmapped` and the other statements about a started machine: the longest image. -/
theorem witness_started : (State.resetWith (List.replicate 256 0x76#8) (.romOnly []) []).bootImage.length ≤ 256 := by decide

theorem witness_PlainStorage : (code [0x04#8]).StorageOk ∧
    (∀ a ∈ [0x8000, 0x9FFF, 0xC000, 0xDFFF, 0xFE00, 0xFE9F, 0xFF80, 0xFFFE], bufferAddress a = true) ∧
    (∀ a ∈ [0x7FFF, 0xA000, 0xBFFF, 0xE000, 0xFDFF, 0xFEA0, 0xFF7F, 0xFFFF], bufferAddress a = false) :=
  ⟨code_storageOk _ (by decide) (by decide), by decide, by decide⟩

theorem witness_WriteFrame : ∃ s t : State,
    (s.bootImage.length ≤ 256 ∧ (0xC001#16 : Word) ≠ 0xC000#16 ∧ s.readOwner 0xC001#16 ≠ some .ext) ∧
    (t.bootImage.length ≤ 256 ∧ t.readOwner 0x8000#16 ≠ some .ext ∧ 0x0100 ≤ (0x8000#16 : Word).toNat ∧
      t.readOwner 0x00FF#16 ≠ some .ext) :=
  ⟨code [], State.resetWith (List.replicate 256 0x76#8) (.romOnly []) [], by decide⟩

/-- The ends of every unmapped range (20_memory.md R130, R132). -/
theorem witness_ReadsAndUnmapped :
    [0xE000#16, 0xFDFF#16, 0xFEA0#16, 0xFEFF#16, 0xFF03#16, 0xFF08#16, 0xFF0E#16, 0xFF4C#16, 0xFF4F#16, 0xFF51#16,
      0xFF7F#16].all (fun a => ((code []).readOwner a).isNone) = true := by decide

/-- Their neighbours are mapped. -/
theorem witness_ReadsAndUnmapped_neighbours :
    [0xDFFF#16, 0xFE00#16, 0xFE9F#16, 0xFF02#16, 0xFF04#16, 0xFF07#16, 0xFF0F#16, 0xFF4B#16, 0xFF80#16].all
      (fun a => ((code []).readOwner a).isSome) = true := by decide

theorem witness_BootOverlay : ∃ (s t : State) (a : Word) (b : Byte), s.bootImage.length ≤ 256 ∧ a.toNat < 0x8000 ∧
    (s.bootActive = true ∧ s.bootImage[a.toNat]? = some b) ∧ t.bootActive = false ∧ s.bootImage.length ≤ 0x0100 ∧
    s.ext = .romOnly [] ∧ State.reset.ext = .oracle [] :=
  ⟨State.resetWith (List.replicate 256 0x76#8) (.romOnly []) [], code [], 0x00FF#16, 0x76#8, by decide⟩

/-- The last cycle of a frame. -/
theorem witness_FrameClock : ((code []).atPlace 153#8 .vblank 455).PhaseOk :=
  ⟨by decide, by decide, by decide, by decide, by decide⟩

theorem witness_PhaseDependsOnPhaseOnly : ∃ (s t : State) (m n : Nat), s ≠ t ∧ s.ppu.ly = t.ppu.ly ∧
    s.ppu.mode = t.ppu.mode ∧ s.ppu.lineCycle = t.ppu.lineCycle ∧ m - s.ppu.seen = n - t.ppu.seen :=
  ⟨code [], code [0x04#8], 8, 8, by decide⟩

theorem witness_VblankEntry : ∃ s : State, s.ppu.mode = .hblank ∧ s.ppu.ly = 143#8 ∧ 456 ≤ s.ppu.lineCycle :=
  ⟨(code []).atPlace 143#8 .hblank 456, by decide⟩

theorem witness_ModeEntries : ∃ s t u v w : State, (s.ppu.mode = .search ∧ 80 ≤ s.ppu.lineCycle) ∧
    (t.ppu.mode = .transfer ∧ 252 ≤ t.ppu.lineCycle) ∧
    (u.ppu.mode = .hblank ∧ 456 ≤ u.ppu.lineCycle ∧ u.ppu.ly.toNat < 143) ∧
    (v.ppu.mode = .vblank ∧ 456 ≤ v.ppu.lineCycle ∧ v.ppu.ly.toNat < 153) ∧
    (w.ppu.mode = .vblank ∧ 456 ≤ w.ppu.lineCycle ∧ w.ppu.ly.toNat = 153) :=
  ⟨(code []).atPlace 0#8 .search 80, (code []).atPlace 0#8 .transfer 252, (code []).atPlace 142#8 .hblank 456,
    (code []).atPlace 152#8 .vblank 456, (code []).atPlace 153#8 .vblank 456, by decide⟩

theorem witness_FramebufferDiscipline : ∃ s t : State, transition s = some t ∧ t.ppu.frameReady ≠ s.ppu.frameReady :=
  ⟨(code []).atPlace 143#8 .hblank 456, _, rfl, by decide⟩

theorem witness_LineCompareEachStep : ∃ (s : State) (total : Nat), (ppuStep total s).ppu.lycMatch = true ∧
    s.ppu.statEn.getLsbD 3 = true :=
  ⟨{ code [] with ppu := { (code []).ppu with statEn := 0x8#4 } }, 4, by decide⟩

/-- From legal places, one cycle short of a threshold and on one of each kind. -/
theorem witness_LineCompareEachStep_thresholds : ∃ s t u v : State, s.PhaseOk ∧ t.PhaseOk ∧ u.PhaseOk ∧ v.PhaseOk ∧
    (transition (afterElapsed 4 s) = none ∧ s.ppu.lineCycle + (4 - s.ppu.seen) < modeEnd s.ppu.mode) ∧
    (4 - t.ppu.seen ≤ 80 ∧ (transition (afterElapsed 4 t)).isSome = true) ∧
    (4 - u.ppu.seen ≤ 80 ∧ (transition (afterElapsed 4 u)).isSome = true) ∧
    (4 - v.ppu.seen ≤ 80 ∧ (transition (afterElapsed 4 v)).isSome = true) :=
  ⟨(code []).atPlace 0#8 .search 75, (code []).atPlace 0#8 .search 76, (code []).atPlace 143#8 .hblank 452,
    (code []).atPlace 153#8 .vblank 452, ⟨by decide, by decide, by decide, by decide, by decide⟩,
    ⟨by decide, by decide, by decide, by decide, by decide⟩, ⟨by decide, by decide, by decide, by decide, by decide⟩,
    ⟨by decide, by decide, by decide, by decide, by decide⟩, by decide, by decide, by decide, by decide⟩

theorem witness_RenderWritesOneLine : ∃ s : State, Sparse.wf s.ppu.fbDraw = true ∧ s.ppu.ly.toNat < 144 :=
  ⟨(code []).atPlace 143#8 .transfer 252, by decide⟩

/-- The layer off; the layer on at the last column before the window and at its first. -/
theorem witness_RenderWritesOneLine_background : ∃ s t : State, s.ppu.lcdc.getLsbD 0 = false ∧
    t.ppu.lcdc.getLsbD 0 = true ∧
    (t.ppu.lcdc.getLsbD 5 && decide (t.ppu.wy.toNat ≤ t.ppu.ly.toNat) && decide (t.ppu.wx.toNat ≤ 3 + 7)) = false ∧
    (t.ppu.lcdc.getLsbD 5 && decide (t.ppu.wy.toNat ≤ t.ppu.ly.toNat) && decide (t.ppu.wx.toNat ≤ 4 + 7)) = true :=
  ⟨code [], setupW 0xF1#8 0x00#8 0x0B#8 0x00#8, by decide⟩

/-- Column 4 of the set-up R: the sprite's pixel shows; and with sprites off the background does. -/
theorem witness_PixelPriority :
    ((setupR 0x00#8).ppu.lcdc.getLsbD 1 = true ∧ (setupR 0x00#8).ppu.visible = [] ++ 0 :: [] ∧
      spriteIndexAt (setupR 0x00#8) 4 0 = some 1#2 ∧ ((setupR 0x00#8).oam (4 * 0 + 3)).getLsbD 7 = false) ∧
    (code []).ppu.lcdc.getLsbD 1 = false := by decide

/-- Columns 3, 4, 11 and 12 of the set-up R: the sprite has a pixel from its first column to its last and no other. -/
theorem witness_PixelPriority_columns :
    ((spriteIndexAt (setupR 0x00#8) 3 0).isSome = false ∧ (spriteIndexAt (setupR 0x00#8) 4 0).isSome = true) ∧
    ((spriteIndexAt (setupR 0x00#8) 11 0).isSome = true ∧ (spriteIndexAt (setupR 0x00#8) 12 0).isSome = false) := by
  decide

/-- A transfer with its last two bytes left, from the core's memory; and one from a ROM-only cartridge. -/
theorem witness_DmaCopiesThePage : ∃ (s u : State) (delta n : Nat), s.mem.wf = true ∧ s.bootImage.length ≤ 256 ∧ s.DmaOk ∧
    s.dma.active = true ∧ n = min 160 (s.dma.index + (s.dma.budget + delta) / 4) ∧ s.dma.index + 2 = n ∧
    (∀ i, i < n → s.dma.index ≤ i → s.readOwner (s.dma.src + BitVec.ofNat 16 i) ≠ some .ext) ∧
    u.DmaOk ∧ u.dma.active = true ∧ u.readOwner u.dma.src = some .ext ∧ ∃ rom, u.ext = .romOnly rom :=
  ⟨{ code [] with dma := ⟨true, 0xC000#16, 158, 3, 0xC0#8⟩ }, memWrite 0xFF46#16 0x40#8 (code []), 44, 160, by decide,
    by decide, ⟨by decide, by decide, by decide, by decide⟩, by decide, by decide, by decide, by decide,
    ⟨by decide, by decide, by decide, by decide⟩, by decide, by decide, [], by decide⟩

/-- One byte at a time: no byte at 3 cycles, one from 4 to 7, the last byte of the table among them; an engine at rest. -/
theorem witness_DmaCopiesThePage_byte : ∃ s t u : State, (s.dma.active = true ∧ s.dma.index < 160 ∧
      s.dma.budget + 3 < 4) ∧
    (t.dma.active = true ∧ t.dma.index < 160 ∧ t.dma.index + 1 = 160 ∧ 4 ≤ t.dma.budget + 4 ∧ t.dma.budget + 4 < 8) ∧
    u.dma.active = false :=
  ⟨memWrite 0xFF46#16 0xC0#8 (code []), { code [] with dma := ⟨true, 0xC000#16, 159, 3, 0xC0#8⟩ }, code [], by decide⟩

theorem witness_RegionContract : ∃ (t : RegionTable Backing) (r q : Region Backing), t.ok = true ∧ r.valid = true ∧
    (∃ p ∈ t, r.conflicts p = true) ∧ q.valid = true ∧ (∀ p ∈ t, q.conflicts p = false) ∧
    t.isRegionMapped q.start = false :=
  ⟨oneRegion, ⟨0xDFFF, 1, .readOnly, .ext⟩, ⟨0xE000, 1, .readOnly, .ext⟩, by decide⟩

/-- The region of the read space at a start shared with one of the write space; and a region to put in its place. -/
theorem witness_RegionContract_replaced : ∃ (t before after : RegionTable Backing) (q r u : Region Backing),
    t.ok = true ∧ t = before ++ q :: after ∧ (∃ p ∈ before ++ after, p.start = q.start) ∧
    (∀ p ∈ before ++ after, p.start = q.start → p.cap = .writeOnly) ∧
    (r.start = q.start ∧ r.cap = q.cap ∧ r.length = q.length ∧ r ≠ q) ∧ u.valid = true ∧
    (∀ p ∈ t, ¬ (p.start = u.start ∧ p.cap = u.cap ∧ p.length = u.length)) :=
  ⟨[⟨0x0000, 0x8000, .writeOnly, .ext⟩, ⟨0x0000, 0x4000, .readOnly, .ext⟩], [⟨0x0000, 0x8000, .writeOnly, .ext⟩], [],
    ⟨0x0000, 0x4000, .readOnly, .ext⟩, ⟨0x0000, 0x4000, .readOnly, .boot⟩, ⟨0x0000, 0x4001, .readOnly, .ext⟩, by decide⟩

/-- The three shapes of the input list. -/
theorem witness_ResetValues : ∃ s t u : State, s.inputs = [] ∧ t.inputs = [] :: [[.requestSerial]] ∧
    u.inputs = (.reset :: [.requestJoypad]) :: [] ∧ u.stopped ≠ none :=
  ⟨code [], { code [] with inputs := [[], [.requestSerial]] },
    { code [] with inputs := [[.reset, .requestJoypad]], stopped := some .stopNotModelled }, by decide⟩

end Sys2Proof.Machine
end

section
/-! SUPPORT. Proofs for the family 10_state.md: F as a byte, the fetch, the registers on the bus, the place of the picture
generator, the DMA engine, reset and the outside; and the invariant that every step keeps. -/

namespace Sys2Proof.Machine

/-! ### F as a byte (10_state.md R36) -/

/-- A flag's byte has the flag at its place and no other bit. -/
theorem getLsbD_flagBit (i k : Nat) (b : Bool) (hk : k < 8) :
    (flagBit i b).getLsbD k = (b && decide (k = i)) := by
  cases b with
  | false => simp [flagBit]
  | true =>
    simp only [flagBit, if_true, BitVec.getLsbD_shiftLeft, BitVec.getLsbD_one, hk, decide_true, Bool.true_and]
    rw [← Bool.decide_and, ← decide_not, ← Bool.decide_and]
    exact decide_eq_decide.mpr (by omega)

theorem Flags.getLsbD_toByte (f : Flags) (k : Nat) (hk : k < 8) : f.toByte.getLsbD k =
    (if k = 3 then f.z else if k = 2 then f.n else if k = 1 then f.h else if k = 0 then f.c else false) := by
  have hs : cfg.flagShift = 0 := rfl
  simp only [Flags.toByte, Flags.pack, hs, BitVec.getLsbD_or, getLsbD_flagBit _ _ _ hk]
  interval_cases k <;> simp

/-- What is written to F and read back is the low nibble. -/
theorem Flags.toByte_ofByte (v : Byte) : (Flags.ofByte v).toByte = v &&& 0x0F#8 := by
  refine BitVec.eq_of_getLsbD_eq fun k hk => ?_
  rw [Flags.getLsbD_toByte _ _ hk, BitVec.getLsbD_and]
  interval_cases k <;> simp [Flags.ofByte, Flags.unpack, cfg]

/-! ### The fetch (10_state.md R35): one equation for each length -/

section

variable (s : State)

theorem fetchBytes_one : fetchBytes 1 s = ([readValue s.cpu.pc s],
    { afterRead s.cpu.pc s with cpu := { s.cpu with pc := s.cpu.pc + 1#16 } }) := by
  simp only [fetchBytes, fetch8_eq]

theorem fetchBytes_two : fetchBytes 2 s = ([readValue s.cpu.pc s, readValue (s.cpu.pc + 1#16) (afterRead s.cpu.pc s)],
    { afterRead (s.cpu.pc + 1#16) (afterRead s.cpu.pc s) with cpu := { s.cpu with pc := s.cpu.pc + 2#16 } }) := by
  have e : s.cpu.pc + 1#16 + 1#16 = s.cpu.pc + 2#16 := by bv_omega
  rw [fetchBytes, fetchBytes_one]
  simp only [fetch8_eq, readValue_withCpu, afterRead_withCpu, e]

theorem fetchBytes_three : fetchBytes 3 s = ([readValue s.cpu.pc s, readValue (s.cpu.pc + 1#16) (afterRead s.cpu.pc s),
      readValue (s.cpu.pc + 2#16) (afterRead (s.cpu.pc + 1#16) (afterRead s.cpu.pc s))],
    { afterRead (s.cpu.pc + 2#16) (afterRead (s.cpu.pc + 1#16) (afterRead s.cpu.pc s)) with
      cpu := { s.cpu with pc := s.cpu.pc + 3#16 } }) := by
  have e1 : s.cpu.pc + 1#16 + 1#16 = s.cpu.pc + 2#16 := by bv_omega
  have e2 : s.cpu.pc + 1#16 + 2#16 = s.cpu.pc + 3#16 := by bv_omega
  rw [fetchBytes, fetchBytes_two]
  simp only [fetch8_eq, readValue_withCpu, afterRead_withCpu, e1, e2]

/-- The fetch of an instruction is as many `Fetch8` as the byte at PC says. -/
theorem fetchInstr_eq_fetchBytes : fetchInstr s = fetchBytes (fetchedLength (readValue s.cpu.pc s)) s := by
  have h : fetchedLength (readValue s.cpu.pc s) = fetchedLength (readValue s.cpu.pc s) - 1 + 1 := by
    rcases fetchedLength_range (readValue s.cpu.pc s) with e | e | e <;> rw [e]
  rw [h]
  rfl

end

/-! ### The registers on the bus (20_memory.md R131) -/

/-- The byte a register reads as after a write to it is by its two accessors. -/
theorem memPeek_memWrite_register (s : State) (a : Word) (r : IoReg) (v : Byte) (hn : s.bootImage.length ≤ 256)
    (ha : a.toNat = cfg.ioAddress r) (hb : r ≠ .bootOff) (hl : r ≠ .ly) :
    memPeek a (memWrite a v s) = some (ioRead r (ioWrite r v s)) := by
  rw [memWrite_register s a r v ha hl, memPeek_register _ a r (by simpa using hn) ha hb]

/-- Above the bank-0 window the read space does not depend on the overlay (R130, R133). -/
theorem readOwner_above (b : Bool) (n : Nat) (a : Word) (hn : n ≤ 0x4000) (ha : 0x4000 ≤ a.toNat) :
    readOwner b n a = readOwner false 0 a := by
  have low : ∀ (b : Bool) (n : Nat), n ≤ 0x4000 →
      (lowRegions b n).find? (fun r => r.readable && r.covers a.toNat) = none := by
    intro b n hn
    rw [List.find?_eq_none, lowRegions_eq]
    intro q hq
    split at hq <;> simp only [List.mem_cons, List.not_mem_nil, or_false] at hq
    · rcases hq with rfl | rfl <;> simp [Region.covers] <;> omega
    · subst hq
      simp [Region.covers]
      omega
  simp only [readOwner, platformMap, RegionTable.readAt, List.find?_append, low b n hn, low false 0 (Nat.zero_le _)]

/-- The boot-disable register is write-only (R133). -/
theorem memPeek_bootOff (s : State) (hn : s.bootImage.length ≤ 256) : memPeek 0xFF50#16 s = none := by
  have h : s.readOwner 0xFF50#16 = none := by
    unfold State.readOwner
    rw [readOwner_above _ _ _ (by omega) (by decide)]
    decide
  unfold memPeek
  rw [h]

/-- LY is read-only (10_state.md R61). -/
theorem memWrite_ly (s : State) (v : Byte) : memWrite 0xFF44#16 v s = s := by
  have h : ∀ c, writeOwner c 0xFF44#16 = none := by decide
  unfold memWrite memWrite? State.writeOwner
  rw [h]
  rfl

/-- A write to the boot-disable register: any byte but 0 removes the overlay (R133). -/
theorem memWrite_bootOff (s : State) (v : Byte) :
    memWrite 0xFF50#16 v s = if v = 0#8 then s else { s with bootActive := false } := by
  rw [memWrite_register s _ .bootOff v rfl (by decide)]
  exact ite_not (v = 0#8) _ _

theorem memPeek_div (s : State) (hn : s.bootImage.length ≤ 256) : memPeek 0xFF04#16 s = some (divider s) :=
  memPeek_register s _ .div hn rfl (by decide)

theorem memWrite_div (s : State) (v : Byte) : memWrite 0xFF04#16 v s = resetDiv s :=
  memWrite_register s _ .div v rfl (by decide)

/-- After its origin is moved to now the divider counts the cycles from there (61_devices.md R466). -/
theorem divider_tick_resetDiv (n : Nat) (s : State) : divider (tick n (resetDiv s)) = BitVec.ofNat 8 (n / 256) := by
  simp [divider, resetDiv, cfg]

theorem ioRead_ioWrite_irqFlags (v : Byte) (s : State) : ioRead .irqFlags (ioWrite .irqFlags v s) = v ||| 0xE0#8 := by
  refine BitVec.eq_of_getLsbD_eq fun k hk => ?_
  show (0b111#3 ++ v.extractLsb' 0 5 : BitVec (3 + 5)).getLsbD k = _
  rw [BitVec.getLsbD_append]
  interval_cases k <;> simp

theorem ioRead_ioWrite_irqEnable (v : Byte) (s : State) :
    ioRead .irqEnable (ioWrite .irqEnable v s) = v &&& 0x1F#8 := by
  refine BitVec.eq_of_getLsbD_eq fun k hk => ?_
  show (0b000#3 ++ v.extractLsb' 0 5 : BitVec (3 + 5)).getLsbD k = _
  rw [BitVec.getLsbD_append]
  interval_cases k <;> simp

theorem ioRead_ioWrite_tac (v : Byte) (s : State) : ioRead .tac (ioWrite .tac v s) = v ||| 0xF8#8 := by
  refine BitVec.eq_of_getLsbD_eq fun k hk => ?_
  show (0b11111#5 ++ v.extractLsb' 0 3 : BitVec (5 + 3)).getLsbD k = _
  rw [BitVec.getLsbD_append]
  interval_cases k <;> simp

/-- The status register bit by bit (10_state.md R64). -/
theorem getLsbD_statByte (p : Ppu) (k : Nat) (hk : k < 8) : (statByte p).getLsbD k =
    (if k = 7 then true else if 3 ≤ k then p.statEn.getLsbD (k - 3) else if k = 2 then p.lycMatch
      else p.mode.code.getLsbD k) := by
  show (1#1 ++ p.statEn ++ BitVec.ofBool p.lycMatch ++ p.mode.code : BitVec (1 + 4 + 1 + 2)).getLsbD k = _
  rw [BitVec.getLsbD_append, BitVec.getLsbD_append, BitVec.getLsbD_append]
  interval_cases k <;> simp

/-- A write to the status register moves bits 6 to 3 and no other. -/
theorem ioRead_ioWrite_stat (v : Byte) (s : State) : ioRead .stat (ioWrite .stat v s) =
    0x80#8 ||| (v &&& 0x78#8) ||| (statByte s.ppu &&& 0x07#8) := by
  refine BitVec.eq_of_getLsbD_eq fun k hk => ?_
  show (statByte { s.ppu with statEn := v.extractLsb' 3 4 }).getLsbD k = _
  simp only [BitVec.getLsbD_or, BitVec.getLsbD_and, getLsbD_statByte _ _ hk]
  interval_cases k <;> simp

/-- The bits of the status register that no write sets. -/
theorem statByte_and_readOnly (p : Ppu) :
    statByte p &&& 0x87#8 = 0x80#8 ||| (if p.lycMatch then 0x04#8 else 0#8) ||| p.mode.code.setWidth 8 := by
  refine BitVec.eq_of_getLsbD_eq fun k hk => ?_
  simp only [BitVec.getLsbD_or, BitVec.getLsbD_and, getLsbD_statByte _ _ hk, BitVec.getLsbD_setWidth]
  cases p.lycMatch <;> interval_cases k <;> simp

/-- The source of a transfer is the page the register names (61_devices.md R501). -/
theorem dmaStart_src (v : Byte) : (dmaStart v).src = BitVec.ofNat 16 (v.toNat * 256) := by
  have hv := v.isLt
  apply BitVec.eq_of_toNat_eq
  show (v ++ 0#8 : BitVec (8 + 8)).toNat = _
  simp only [BitVec.toNat_append, BitVec.toNat_ofNat, Nat.shiftLeft_eq, Nat.zero_mod, Nat.or_zero]
  omega

/-! ### The place of the picture generator (61_devices.md R480, R481) -/

/-- Where the picture generator stands: line, mode, offset in the line (61_devices.md R481). -/
structure Beam where
  ly : Byte
  mode : Mode
  off : Nat

/-- The place of a state. -/
def State.beam (s : State) : Beam := ⟨s.ppu.ly, s.ppu.mode, s.ppu.lineCycle⟩

/-- The transition as a function of the place alone (61_devices.md R480, R481). -/
def Beam.next (b : Beam) : Option Beam :=
  match b.mode with
  | .search => if 80 ≤ b.off then some { b with mode := .transfer } else none
  | .transfer => if 252 ≤ b.off then some { b with mode := .hblank } else none
  | .hblank =>
    if 456 ≤ b.off then
      some ⟨b.ly + 1#8, if (b.ly + 1#8).toNat = 144 then .vblank else .search, b.off - 456⟩
    else none
  | .vblank =>
    if 456 ≤ b.off then
      some (if (b.ly + 1#8).toNat = 154 then ⟨0#8, .search, b.off - 456⟩ else ⟨b.ly + 1#8, .vblank, b.off - 456⟩)
    else none

/-- As many transitions as are due, at most `n`. -/
def Beam.run (n : Nat) (b : Beam) : Beam :=
  match n with
  | 0 => b
  | n + 1 =>
    match b.next with
    | none => b
    | some c => c.run n

/-- What a transition can be: the entry of each mode, and the line it starts (R480, R483). -/
theorem transition_cases {s t : State} (h : transition s = some t) :
    (s.ppu.mode = .search ∧ 80 ≤ s.ppu.lineCycle ∧ t = enterTransfer s) ∨
    (s.ppu.mode = .transfer ∧ 252 ≤ s.ppu.lineCycle ∧ t = enterHblank s) ∨
    (s.ppu.mode = .hblank ∧ 456 ≤ s.ppu.lineCycle ∧ (s.ppu.ly + 1#8).toNat = 144 ∧ t = enterVblank (nextLine s)) ∨
    (s.ppu.mode = .hblank ∧ 456 ≤ s.ppu.lineCycle ∧ (s.ppu.ly + 1#8).toNat ≠ 144 ∧ t = enterSearch (nextLine s)) ∨
    (s.ppu.mode = .vblank ∧ 456 ≤ s.ppu.lineCycle ∧ (s.ppu.ly + 1#8).toNat = 154 ∧
      t = enterSearch { nextLine s with ppu := { (nextLine s).ppu with ly := 0#8 } }) ∨
    (s.ppu.mode = .vblank ∧ 456 ≤ s.ppu.lineCycle ∧ (s.ppu.ly + 1#8).toNat ≠ 154 ∧ t = nextLine s) := by
  unfold transition at h
  split at h <;> rename_i hm <;> split at h <;> cases h <;> rename_i hc
  · exact .inl ⟨hm, hc, rfl⟩
  · exact .inr (.inl ⟨hm, hc, rfl⟩)
  · split <;> rename_i hl
    · exact .inr (.inr (.inl ⟨hm, hc, hl, rfl⟩))
    · exact .inr (.inr (.inr (.inl ⟨hm, hc, hl, rfl⟩)))
  · split <;> rename_i hl
    · exact .inr (.inr (.inr (.inr (.inl ⟨hm, hc, hl, rfl⟩))))
    · exact .inr (.inr (.inr (.inr (.inr ⟨hm, hc, hl, rfl⟩))))

/-- No transition is due exactly before the end of the mode. -/
theorem transition_eq_none_iff (s : State) : transition s = none ↔ s.ppu.lineCycle < modeEnd s.ppu.mode := by
  unfold transition
  cases s.ppu.mode <;> simp [modeEnd, cfg, Config.lineLen]

/-! What each entry does to the picture generator. -/

theorem renderLine_ppu (s : State) : ∃ fb, (renderLine s).ppu = { s.ppu with fbDraw := fb } := by
  unfold renderLine
  split
  · exact ⟨_, rfl⟩
  · exact ⟨s.ppu.fbDraw, rfl⟩

theorem enterHblank_ppu (s : State) : ∃ fb, (enterHblank s).ppu = { s.ppu with mode := .hblank, fbDraw := fb } := by
  unfold enterHblank
  rw [requestLcdIf_ppu]
  exact renderLine_ppu { s with ppu := { s.ppu with mode := .hblank } }

theorem enterVblank_ppu (s : State) : (enterVblank s).ppu =
    { s.ppu with mode := .vblank, fbReady := s.ppu.fbDraw, frameReady := true } := by
  unfold enterVblank
  rw [requestLcdIf_ppu, request_ppu]

theorem enterSearch_ppu (s : State) : (enterSearch s).ppu =
    { s.ppu with
      mode := .search
      visible := (spriteSearch { s with ppu := { s.ppu with mode := .search } }).ppu.visible } := by
  unfold enterSearch
  rw [requestLcdIf_ppu]
  rfl

/-- A transition moves the place as `Beam.next` says. -/
theorem transition_beam {s t : State} (h : transition s = some t) : s.beam.next = some t.beam := by
  rcases transition_cases h with ⟨hm, hc, rfl⟩ | ⟨hm, hc, rfl⟩ | ⟨hm, hc, hl, rfl⟩ | ⟨hm, hc, hl, rfl⟩ |
    ⟨hm, hc, hl, rfl⟩ | ⟨hm, hc, hl, rfl⟩
  · simp [Beam.next, State.beam, hm, hc, enterTransfer]
  · obtain ⟨fb, hp⟩ := enterHblank_ppu s
    simp [Beam.next, State.beam, hm, hc, hp]
  · simp [Beam.next, State.beam, hm, hc, hl, enterVblank_ppu, nextLine, cfg, Config.lineLen]
  · simp [-BitVec.toNat_add, Beam.next, State.beam, hm, hc, hl, enterSearch_ppu, nextLine, cfg, Config.lineLen]
  · simp [Beam.next, State.beam, hm, hc, hl, enterSearch_ppu, nextLine, cfg, Config.lineLen]
  · simp [-BitVec.toNat_add, Beam.next, State.beam, hm, hc, hl, nextLine, cfg, Config.lineLen]

/-- The place after a transition is a function of the place before it. -/
theorem transition_map_beam (s : State) : (transition s).map State.beam = s.beam.next := by
  cases h : transition s with
  | some t => exact (transition_beam h).symm
  | none =>
    rw [transition_eq_none_iff] at h
    unfold Beam.next State.beam
    dsimp only
    cases hm : s.ppu.mode <;> rw [hm] at h <;> exact (if_neg (Nat.not_le.mpr h)).symm

theorem transitions_beam (n : Nat) (s : State) : (transitions n s).beam = s.beam.run n := by
  induction n generalizing s with
  | zero => rfl
  | succ n ih =>
    unfold transitions Beam.run
    rw [← transition_map_beam s]
    cases transition s with
    | none => rfl
    | some t => exact ih t

/-! `PpuStep` through the state at its loop: the DMA does not read the count of cycles seen, and keeps it. -/

/-- A state with another count of the cycles seen by the picture generator (10_state.md R74). -/
def State.withSeen (s : State) (n : Nat) : State := { s with ppu := { s.ppu with seen := n } }

theorem memRead_withSeen (a : Word) (s : State) (n : Nat) :
    memRead a (s.withSeen n) = ((memRead a s).1, (memRead a s).2.withSeen n) := by
  have ho : (s.withSeen n).readOwner a = s.readOwner a := rfl
  unfold memRead memPeek memReadEffect
  rw [ho]
  cases s.readOwner a with
  | none => rfl
  | some x =>
    cases x with
    | io r => cases r <;> rfl
    | boot | ext | buffer => rfl

theorem dmaCopyByte_withSeen (s : State) (n : Nat) : dmaCopyByte (s.withSeen n) = (dmaCopyByte s).withSeen n := by
  have hr := memRead_withSeen (s.dma.src + BitVec.ofNat 16 s.dma.index)
    { s with dma := { s.dma with budget := s.dma.budget - cfg.dmaByteCycles } } n
  unfold dmaCopyByte
  dsimp only [State.withSeen] at hr ⊢
  rw [hr]
  unfold State.setOam
  split <;> split <;> rfl

theorem dmaLoop_withSeen (k : Nat) (s : State) (n : Nat) : dmaLoop k (s.withSeen n) = (dmaLoop k s).withSeen n := by
  induction k generalizing s with
  | zero => rfl
  | succ k ih =>
    unfold dmaLoop
    rw [dmaCopyByte_withSeen, ih]
    exact (apply_ite (fun t : State => t.withSeen n) _ _ _).symm

theorem dmaAdvance_withSeen (k : Nat) (s : State) (n : Nat) :
    dmaAdvance k (s.withSeen n) = (dmaAdvance k s).withSeen n := by
  unfold dmaAdvance
  rw [apply_ite (fun t : State => t.withSeen n)]
  have hl := dmaLoop_withSeen ((s.dma.budget + k) / cfg.dmaByteCycles)
    { s with dma := { s.dma with budget := s.dma.budget + k } } n
  exact congrArg (fun t => if s.dma.active then t else s.withSeen n) hl

/-- `PpuStep(total)`: its loop from the state after the elapsed cycles, and the line compare (61_devices.md R480). -/
theorem ppuStep_eq (total : Nat) (s : State) : ppuStep total s =
    lineCompare (transitions (transitionBound (afterElapsed total s)) (afterElapsed total s)) := by
  have hd := dmaAdvance_withSeen (total - s.ppu.seen) s total
  obtain ⟨m, e, d, hs⟩ := dmaAdvance_shape (total - s.ppu.seen) s
  unfold ppuStep afterElapsed
  dsimp only [State.withSeen] at hd ⊢
  rw [hd, hs]

theorem lineCompare_ppu (s : State) :
    (lineCompare s).ppu = { s.ppu with lycMatch := decide (s.ppu.ly = s.ppu.lyc) } := by
  unfold lineCompare
  dsimp only
  split
  · rw [requestLcdIf_ppu]
  · rfl

theorem lineCompare_beam (s : State) : (lineCompare s).beam = s.beam := by
  unfold State.beam
  rw [lineCompare_ppu]

/-- The place after `PpuStep(total)` is a function of the place before it and the cycles elapsed (R481). -/
theorem ppuStep_beam (total : Nat) (s : State) : (ppuStep total s).beam =
    Beam.run (3 * ((s.ppu.lineCycle + (total - s.ppu.seen)) / cfg.lineLen + 1))
      ⟨s.ppu.ly, s.ppu.mode, s.ppu.lineCycle + (total - s.ppu.seen)⟩ := by
  rw [ppuStep_eq, lineCompare_beam, transitions_beam]
  rfl

/-! ### The legal places (61_devices.md R481) -/

/-- The offset in the line at which a mode begins (61_devices.md R481). -/
def modeStart (m : Mode) : Nat :=
  match m with
  | .search | .vblank => 0
  | .transfer => 80
  | .hblank => 252

/-- The mode has begun at this line and offset, and may be over. -/
structure Beam.Begun (b : Beam) : Prop where
  line : b.ly.toNat < 154
  vblank : b.mode = .vblank ↔ 144 ≤ b.ly.toNat
  start : modeStart b.mode ≤ b.off

/-- A mode that has begun gives way to one that has begun. -/
theorem Beam.Begun.next {b c : Beam} (h : b.Begun) (hn : b.next = some c) : c.Begun := by
  obtain ⟨ly, m, off⟩ := b
  obtain ⟨hl, hv, -⟩ := h
  dsimp only at hl hv
  have hinc : (ly + 1#8).toNat = ly.toNat + 1 := by
    rw [BitVec.toNat_add]
    exact Nat.mod_eq_of_lt (by change ly.toNat + 1 < 256; omega)
  unfold Beam.next at hn
  cases m with
  | search =>
    dsimp only at hn
    split at hn <;> cases hn
    exact ⟨hl, by simpa using hv, ‹_›⟩
  | transfer =>
    dsimp only at hn
    split at hn <;> cases hn
    exact ⟨hl, by simpa using hv, ‹_›⟩
  | hblank =>
    have hv : ly.toNat < 144 := by simpa using hv
    dsimp only at hn
    split at hn <;> cases hn
    rw [hinc]
    split <;> refine ⟨?_, ?_, Nat.zero_le _⟩ <;> simp only [hinc, reduceCtorEq, true_iff, false_iff] <;> omega
  | vblank =>
    have hv : 144 ≤ ly.toNat := by simpa using hv
    dsimp only at hn
    split at hn <;> cases hn
    rw [hinc]
    split
    · exact ⟨show 0 < 154 by decide, by simp, Nat.zero_le _⟩
    · refine ⟨?_, ?_, Nat.zero_le _⟩ <;> simp only [hinc, true_iff] <;> omega

theorem modeAt_eq_vblank_iff (ly off : Nat) : modeAt ly off = .vblank ↔ 144 ≤ ly := by
  unfold modeAt
  split
  · next h =>
    refine iff_of_false ?_ (Nat.not_le.mpr h)
    (repeat' split) <;> decide
  · next h => exact iff_of_true rfl (Nat.not_lt.mp h)

theorem modeStart_modeAt (ly off : Nat) : modeStart (modeAt ly off) ≤ off := by
  unfold modeAt
  split
  · split
    · exact Nat.zero_le _
    · split <;> simp only [modeStart] <;> omega
  · exact Nat.zero_le _

/-- A mode that has begun and is not over is the one R481 gives. -/
theorem Beam.Begun.modeAt {b : Beam} (h : b.Begun) (he : b.off < modeEnd b.mode) :
    b.off < 456 ∧ b.mode = modeAt b.ly.toNat b.off := by
  obtain ⟨ly, m, off⟩ := b
  obtain ⟨-, hv, hs⟩ := h
  dsimp only at hv hs he ⊢
  unfold Machine.modeAt
  cases m with
  | search =>
    have hl : ly.toNat < 144 := by simpa using hv
    have he : off < 80 := he
    exact ⟨by omega, by rw [if_pos hl, if_pos he]⟩
  | transfer =>
    have hl : ly.toNat < 144 := by simpa using hv
    have hs : 80 ≤ off := hs
    have he : off < 252 := he
    exact ⟨by omega, by rw [if_pos hl, if_neg (by omega), if_pos he]⟩
  | hblank =>
    have hl : ly.toNat < 144 := by simpa using hv
    have hs : 252 ≤ off := hs
    exact ⟨he, by rw [if_pos hl, if_neg (by omega), if_neg (by omega)]⟩
  | vblank =>
    have hl : 144 ≤ ly.toNat := by simpa using hv
    exact ⟨he, by rw [if_neg (by omega)]⟩

/-- From a legal place, whatever cycles are added to the offset, the mode has begun. -/
theorem State.PhaseOk.begun {s : State} (h : s.PhaseOk) (n : Nat) :
    Beam.Begun ⟨s.ppu.ly, s.ppu.mode, s.ppu.lineCycle + n⟩ where
  line := h.line
  vblank := h.mode ▸ modeAt_eq_vblank_iff _ _
  start := h.mode ▸ Nat.le_add_right_of_le (modeStart_modeAt _ _)

/-! ### The loop of the state machine (61_devices.md R480) -/

/-- What every transition keeps, the loop keeps. -/
theorem transitions_keep {P : State → Prop} (hP : ∀ s t, P s → transition s = some t → P t) (n : Nat) (s : State)
    (h : P s) : P (transitions n s) := by
  induction n generalizing s with
  | zero => exact h
  | succ n ih =>
    unfold transitions
    split
    · exact h
    · next t ht => exact ih t (hP s t h ht)

/-- The loop ends with no transition due, if it may make as many as are left. -/
theorem transition_transitions (n : Nat) (s : State) (h : transitionsLeft s ≤ n) :
    transition (transitions n s) = none := by
  induction n generalizing s with
  | zero =>
    cases ht : transition s with
    | none => exact ht
    | some t =>
      have := transition_left s t ht
      omega
  | succ n ih =>
    unfold transitions
    split
    · next ht => exact ht
    · next t ht =>
      have := transition_left s t ht
      exact ih t (by omega)

/-! ### The selected sprites (61_devices.md R490) -/

theorem insertSprite_perm (s : State) (i : Nat) (l : List Nat) : (insertSprite s i l).Perm (i :: l) := by
  induction l with
  | nil => exact .refl _
  | cons j t ih =>
    unfold insertSprite
    split
    · exact .refl _
    · exact (ih.cons j).trans (.swap i j t)

theorem sortSprites_perm (s : State) (l : List Nat) : (sortSprites s l).Perm l := by
  induction l with
  | nil => exact .refl _
  | cons i t ih => exact (insertSprite_perm s i _).trans (ih.cons i)

theorem selectedSprites_length (s : State) : (selectedSprites s).length ≤ 10 := List.length_take_le _ _

theorem selectedSprites_lt (s : State) (i : Nat) (h : i ∈ selectedSprites s) : i < 40 :=
  List.mem_range.mp (List.mem_filter.mp (List.mem_of_mem_take h)).1

/-- At most ten sprites, each of the table (10_state.md R71). -/
def SpritesOk (l : List Nat) : Prop := l.length ≤ 10 ∧ ∀ i ∈ l, i < 40

theorem spriteSearch_spritesOk (s : State) : SpritesOk (spriteSearch s).ppu.visible := by
  have hp := sortSprites_perm s (selectedSprites s)
  exact ⟨hp.length_eq ▸ selectedSprites_length s, fun i hi => selectedSprites_lt s i (hp.mem_iff.mp hi)⟩

theorem transition_spritesOk (s t : State) (hs : SpritesOk s.ppu.visible) (h : transition s = some t) :
    SpritesOk t.ppu.visible := by
  rcases transition_cases h with ⟨-, -, rfl⟩ | ⟨-, -, rfl⟩ | ⟨-, -, -, rfl⟩ | ⟨-, -, -, rfl⟩ | ⟨-, -, -, rfl⟩ |
    ⟨-, -, -, rfl⟩
  · exact hs
  · obtain ⟨fb, hp⟩ := enterHblank_ppu s
    rw [hp]
    exact hs
  · rw [enterVblank_ppu]
    exact hs
  · rw [enterSearch_ppu]
    exact spriteSearch_spritesOk _
  · rw [enterSearch_ppu]
    exact spriteSearch_spritesOk _
  · exact hs

/-- A place is legal by the line, the mode, the offset and the sprites selected alone. -/
theorem State.PhaseOk.of_eq {s t : State} (h : s.PhaseOk) (hb : t.beam = s.beam)
    (hv : t.ppu.visible = s.ppu.visible) : t.PhaseOk := by
  have hl : t.ppu.ly = s.ppu.ly := congrArg Beam.ly hb
  have hm : t.ppu.mode = s.ppu.mode := congrArg Beam.mode hb
  have hc : t.ppu.lineCycle = s.ppu.lineCycle := congrArg Beam.off hb
  exact ⟨hl ▸ h.line, hc ▸ h.offset, by rw [hm, hl, hc]; exact h.mode, hv ▸ h.count, hv ▸ h.sprites⟩

/-- `PpuStep` leads from a legal place to a legal place, whatever the cycles elapsed (61_devices.md R481). -/
theorem State.PhaseOk.ppuStep {s : State} (h : s.PhaseOk) (total : Nat) : (ppuStep total s).PhaseOk := by
  rw [ppuStep_eq]
  have h0 : (afterElapsed total s).beam.Begun := h.begun (total - s.ppu.seen)
  have hv0 : SpritesOk (afterElapsed total s).ppu.visible := ⟨h.count, h.sprites⟩
  generalize afterElapsed total s = u at h0 hv0
  have hb : (transitions (transitionBound u) u).beam.Begun :=
    transitions_keep (P := fun s => s.beam.Begun) (fun s t hs ht => hs.next (transition_beam ht)) _ u h0
  have hv : SpritesOk (transitions (transitionBound u) u).ppu.visible :=
    transitions_keep (P := fun s => SpritesOk s.ppu.visible) transition_spritesOk _ u hv0
  have he := (transition_eq_none_iff _).mp (transition_transitions _ u (transitionsLeft_le u))
  obtain ⟨ho, hm⟩ := hb.modeAt he
  have hend : (transitions (transitionBound u) u).PhaseOk := ⟨hb.line, ho, hm, hv.1, hv.2⟩
  exact hend.of_eq (lineCompare_beam _) (by rw [lineCompare_ppu])

/-! ### The DMA engine (61_devices.md R502) -/

@[simp] theorem setOam_dma (i : Nat) (v : Byte) (s : State) : (s.setOam i v).dma = s.dma := by
  unfold State.setOam
  split <;> rfl

/-- The DMA registers after one byte. -/
theorem dmaCopyByte_dma (s : State) : (dmaCopyByte s).dma =
    if s.dma.index + 1 = 160 then { s.dma with active := false, index := s.dma.index + 1, budget := 0 }
    else { s.dma with index := s.dma.index + 1, budget := s.dma.budget - 4 } := by
  have hl : cfg.dmaLen = 160 := rfl
  have hb : cfg.dmaByteCycles = 4 := rfl
  simp only [dmaCopyByte, memRead, setOam_dma, memReadEffect_dma, hl, hb]
  split <;> rfl

/-- The DMA registers with `n` bytes of the loop to come: as between steps, but that the cycles of these bytes may be
saved up. -/
structure Dma.Due (n : Nat) (d : Dma) : Prop where
  left : d.active = true → d.index < 160
  index : d.index ≤ 160
  source : d.src = pairOf d.reg 0#8
  rest : d.active = false → d.budget < 4
  budget : d.budget < 4 * n + 4

/-- A byte copied is one byte less to come. -/
theorem dmaCopyByte_due {n : Nat} {s : State} (h : s.dma.Due (n + 1)) (ha : s.dma.active = true)
    (hb : 4 ≤ s.dma.budget) : (dmaCopyByte s).dma.Due n := by
  have hl := h.left ha
  have hn := h.budget
  rw [dmaCopyByte_dma]
  split
  · next hi =>
    exact ⟨fun e => Bool.noConfusion e, Nat.le_of_eq hi, h.source, fun _ => Nat.zero_lt_succ 3, Nat.zero_lt_succ _⟩
  · next hi =>
    have hi : s.dma.index + 1 < 160 := by omega
    refine ⟨fun _ => hi, Nat.le_of_lt hi, h.source, fun e => ?_, by dsimp only; omega⟩
    rw [show s.dma.active = false from e] at ha
    cases ha

/-- The loop ends with less than one byte's cycles saved up. -/
theorem Dma.Due.dmaLoop {n : Nat} {s : State} (h : s.dma.Due n) : (dmaLoop n s).DmaOk := by
  induction n generalizing s with
  | zero => exact ⟨h.left, h.index, h.source, h.budget⟩
  | succ n ih =>
    unfold Machine.dmaLoop
    split
    · next hc =>
      rw [Bool.and_eq_true, decide_eq_true_eq] at hc
      exact ih (dmaCopyByte_due h hc.1 hc.2)
    · next hc =>
      refine ⟨h.left, h.index, h.source, ?_⟩
      cases ha : s.dma.active with
      | false => exact h.rest ha
      | true => simpa [ha, cfg] using hc

theorem State.DmaOk.of_eq {s t : State} (h : s.DmaOk) (e : t.dma = s.dma) : t.DmaOk where
  left := e ▸ h.left
  index := e ▸ h.index
  source := e ▸ h.source
  budget := e ▸ h.budget

/-- A transfer just started (61_devices.md R501). -/
theorem State.DmaOk.of_dmaStart {s : State} {v : Byte} (h : s.dma = dmaStart v) : s.DmaOk where
  left := fun _ => by rw [h]; exact show 0 < 160 by decide
  index := by rw [h]; exact Nat.zero_le _
  source := by rw [h]; rfl
  budget := by rw [h]; exact show 0 < 4 by decide

theorem State.DmaOk.dmaAdvance {s : State} (h : s.DmaOk) (n : Nat) : (dmaAdvance n s).DmaOk := by
  unfold Machine.dmaAdvance
  split
  · next ha =>
    have hd : cfg.dmaByteCycles = 4 := rfl
    refine Dma.Due.dmaLoop ⟨h.left, h.index, h.source, fun hr => ?_, ?_⟩
    · rw [show s.dma.active = false from hr] at ha
      cases ha
    · rw [hd]
      dsimp only
      omega
  · exact h

theorem lineCompare_dma (s : State) : (lineCompare s).dma = s.dma := by
  unfold lineCompare
  dsimp only
  split
  · rw [requestLcdIf_dma]
  · rfl

theorem transition_dma (s t : State) (h : transition s = some t) : t.dma = s.dma := by
  obtain ⟨p, q, rfl, -⟩ := transition_shape s t h
  rfl

theorem ppuStep_dma (total : Nat) (s : State) :
    (ppuStep total s).dma = (dmaAdvance (total - s.ppu.seen) s).dma := by
  rw [ppuStep_eq, lineCompare_dma]
  exact transitions_keep (P := fun u => u.dma = (afterElapsed total s).dma)
    (fun u t hu ht => (transition_dma u t ht).trans hu) _ _ rfl

theorem ppuStep_seen (total : Nat) (s : State) : (ppuStep total s).ppu.seen = total := by
  rw [ppuStep_eq, lineCompare_ppu]
  refine transitions_keep (P := fun u => u.ppu.seen = total) (fun u t hu ht => ?_) _ _ rfl
  obtain ⟨p, q, rfl, hp⟩ := transition_shape u t ht
  exact hp.trans hu

theorem State.DmaOk.ppuStep {s : State} (h : s.DmaOk) (total : Nat) : (ppuStep total s).DmaOk :=
  (h.dmaAdvance _).of_eq (ppuStep_dma total s)

/-! ### Reset and the outside (10_state.md R90; 60_exceptions.md R442) -/

/-- An act of the outside does not read the list of acts to come. -/
theorem hostEvent_withInputs (e : HostEvent) (s : State) (l : List (List HostEvent)) :
    hostEvent e { s with inputs := l } = { hostEvent e s with inputs := l } := by
  cases e <;> rfl

theorem betweenSteps_nil (s : State) (h : s.inputs = []) : betweenSteps s = s := by
  unfold betweenSteps
  rw [h]

theorem betweenSteps_cons (s : State) (acts : List HostEvent) (later : List (List HostEvent))
    (h : s.inputs = acts :: later) : betweenSteps s = hostEvents acts { s with inputs := later } := by
  unfold betweenSteps
  rw [h]

/-- A gap takes the first of its acts first. -/
theorem betweenSteps_act (s : State) (e : HostEvent) (acts : List HostEvent) (later : List (List HostEvent))
    (h : s.inputs = (e :: acts) :: later) :
    betweenSteps s = betweenSteps (hostEvent e { s with inputs := acts :: later }) := by
  rw [betweenSteps_cons s _ later h, hostEvents, hostEvent_withInputs e s (acts :: later),
    betweenSteps_cons _ acts later rfl, ← hostEvent_withInputs]

/-- The state after reset meets the invariant. -/
theorem resetWith_inv (image : List Byte) (ext : ExtDevice) (ins : List (List HostEvent)) (hi : image.length ≤ 256)
    (he : ext.rom.wf = true) (hn : ∀ acts ∈ ins, ∀ e ∈ acts, e.wf) : (State.resetWith image ext ins).Inv where
  storage := ⟨rfl, fun _ h => absurd h List.not_mem_nil, he, hn, rfl, rfl⟩
  phase := ⟨show 0 < 154 by decide, show 0 < 456 by decide, rfl, Nat.zero_le _, fun _ h => absurd h List.not_mem_nil⟩
  dma :=
    ⟨fun h => absurd h Bool.false_ne_true, Nat.zero_le _, show 0#16 = pairOf 0#8 0#8 by decide, show 0 < 4 by decide⟩
  clock := ⟨rfl, Nat.le_refl _, Nat.le_refl _, fun _ => rfl⟩
  boot := ⟨hi, fun h => by simpa [State.resetWith] using h⟩

/-! ### The invariant inside a step -/

/-- The invariant between the parts of a step: that of the machine, but that the picture generator may lag behind. -/
structure State.MidInv (s : State) : Prop where
  storage : s.StorageOk
  phase : s.PhaseOk
  dma : s.DmaOk
  whole : s.timer.cycles % 4 = 0
  origin : s.timer.divOrigin ≤ s.timer.cycles
  behind : s.ppu.seen ≤ s.timer.cycles
  boot : s.BootOk

theorem State.Inv.mid {s : State} (h : s.Inv) : s.MidInv :=
  ⟨h.storage, h.phase, h.dma, h.clock.whole, h.clock.origin, h.clock.behind, h.boot⟩

theorem State.MidInv.inv {s : State} (h : s.MidInv) (hl : s.stopped = none → s.ppu.seen = s.timer.cycles) : s.Inv :=
  ⟨h.storage, h.phase, h.dma, ⟨h.whole, h.origin, h.behind, hl⟩, h.boot⟩

/-- The invariant says nothing of the CPU and of interrupts, and inside a step nothing of the terminal state. -/
theorem State.MidInv.withCpuIrq {s : State} (h : s.MidInv) (c : Cpu) (q : Irq) (r : Option StopReason) :
    State.MidInv { s with cpu := c, irq := q, stopped := r } where
  storage := ⟨h.storage.mem, h.storage.keys, h.storage.rom, h.storage.inputs, h.storage.draw, h.storage.ready⟩
  phase := h.phase.of_eq rfl rfl
  dma := h.dma.of_eq rfl
  whole := h.whole
  origin := h.origin
  behind := h.behind
  boot := ⟨h.boot.short, h.boot.there⟩

/-- What the CPU side does quietly keeps the invariant: the engine is as before or just started. -/
theorem State.MidInv.of_quiet {s t : State} (h : s.MidInv) (q : Quiet s t) : t.MidInv where
  storage :=
    { mem := q.canonical h.storage.mem
      keys := q.keys h.storage.keys
      rom := q.rom h.storage.rom
      inputs := q.inputs ▸ h.storage.inputs
      draw := q.fbDraw ▸ h.storage.draw
      ready := q.fbReady ▸ h.storage.ready }
  phase := h.phase.of_eq (by rw [State.beam, q.ly, q.mode, q.lineCycle, State.beam]) q.visible
  dma := q.dma.elim h.dma.of_eq fun ⟨_, hv⟩ => State.DmaOk.of_dmaStart hv
  whole := q.whole.trans h.whole
  origin := q.origin h.origin
  behind := q.seen ▸ Nat.le_trans h.behind q.clock
  boot := ⟨q.bootImage ▸ h.boot.short, fun e => q.bootImage ▸ h.boot.there (q.bootActive e)⟩

/-- What the picture generator and DMA do keeps the stores canonical. -/
theorem State.StorageOk.of_paced {s t : State} (h : s.StorageOk) (p : Paced s t) : t.StorageOk where
  mem := p.canonical h.mem
  keys := p.keys h.keys
  rom := p.rom h.rom
  inputs := p.inputs ▸ h.inputs
  draw := p.draw h.draw
  ready := p.ready h.draw h.ready

/-! ### The parts of a step -/

theorem Quiet.enterInterrupt (k : IrqKind) (s : State) : Quiet s (enterInterrupt k s) :=
  (((Quiet.tick 8 s rfl).trans (Quiet.push16 _ _)).trans (Quiet.tick 4 _ rfl)).trans (Quiet.withCpu _ _)

theorem State.MidInv.dispatch {s : State} (h : s.MidInv) : (dispatch s).MidInv := by
  have hack : ∀ k, (acknowledge k s).MidInv := fun k => h.withCpuIrq _ _ s.stopped
  rcases dispatch_cases s with e | ⟨k, -, -, e⟩ | ⟨k, -, -, e⟩ <;> rw [e]
  · exact h
  · exact hack k
  · exact (hack k).of_quiet (Quiet.enterInterrupt k _)

theorem State.MidInv.of_quietly {i : Instr} {s t : State} (h : s.MidInv) (q : Quietly i s t) : t.MidInv :=
  (h.of_quiet q.quiet).withCpuIrq t.cpu t.irq t.stopped

theorem State.MidInv.cpuStep {s t : State} (h : s.MidInv) (e : cpuStep s = .next t) : t.MidInv := by
  rcases cpuStep_cases s with ⟨-, e'⟩ | ⟨-, i, u, -, -, e', q⟩ <;> rw [e'] at e <;> cases e
  · exact h.of_quiet (Quiet.tick 4 s rfl)
  · exact (h.of_quiet (Quiet.fetchInstr s)).of_quietly q

/-- The end of a step: `PpuStep` makes the picture generator level with the clock, unless a fatal condition ended it. -/
theorem State.MidInv.finishStep {t : State} (h : t.MidInv) : (finishStep t).Inv := by
  unfold Machine.finishStep
  split
  · next hs => exact h.inv fun e => by rw [e] at hs; cases hs
  · have p := Paced.ppuStep t.timer.cycles t
    have hseen := ppuStep_seen t.timer.cycles t
    exact
      { storage := h.storage.of_paced p
        phase := h.phase.ppuStep _
        dma := h.dma.ppuStep _
        clock :=
          { whole := by rw [p.timer]; exact h.whole
            origin := by rw [p.timer]; exact h.origin
            behind := by rw [hseen, p.timer]
            level := fun _ => by rw [hseen, p.timer] }
        boot := ⟨p.bootImage ▸ h.boot.short, fun e => p.bootImage ▸ h.boot.there (p.bootActive ▸ e)⟩ }

/-- What the outside may set: a request, the ready flag, the collaborators, the acts still to come. -/
theorem State.Inv.withOutside {s : State} (h : s.Inv) (q : Irq) (b : Bool) (x : ExtDevice) (l : List (List HostEvent))
    (hx : x.rom.wf = true) (hl : ∀ acts ∈ l, ∀ e ∈ acts, e.wf) :
    State.Inv { s with irq := q, ppu := { s.ppu with frameReady := b }, ext := x, inputs := l } where
  storage := ⟨h.storage.mem, h.storage.keys, hx, hl, h.storage.draw, h.storage.ready⟩
  phase := h.phase.of_eq rfl rfl
  dma := h.dma.of_eq rfl
  clock := ⟨h.clock.whole, h.clock.origin, h.clock.behind, h.clock.level⟩
  boot := ⟨h.boot.short, h.boot.there⟩

theorem State.Inv.hostEvent {s : State} (h : s.Inv) (e : HostEvent) (he : e.wf) : (hostEvent e s).Inv := by
  have hx := h.storage.rom
  have hl := h.storage.inputs
  cases e with
  | requestSerial => exact h.withOutside (request .serial s).irq s.ppu.frameReady s.ext s.inputs hx hl
  | requestJoypad => exact h.withOutside (request .joypad s).irq s.ppu.frameReady s.ext s.inputs hx hl
  | consumeFrame => exact h.withOutside s.irq false s.ext s.inputs hx hl
  | extBecomes x => exact h.withOutside s.irq s.ppu.frameReady x s.inputs he hl
  | reset => exact resetWith_inv s.bootImage s.ext s.inputs h.boot.short hx hl

theorem State.Inv.hostEvents {s : State} (h : s.Inv) (l : List HostEvent) (hl : ∀ e ∈ l, e.wf) :
    (hostEvents l s).Inv := by
  induction l generalizing s with
  | nil => exact h
  | cons e t ih =>
    exact ih (h.hostEvent e (hl e List.mem_cons_self)) fun x hx => hl x (List.mem_cons_of_mem _ hx)

theorem State.Inv.betweenSteps {s : State} (h : s.Inv) : (betweenSteps s).Inv := by
  have hl := h.storage.inputs
  unfold Machine.betweenSteps
  split
  · exact h
  · next acts later e =>
    rw [e] at hl
    have hlater := h.withOutside s.irq s.ppu.frameReady s.ext later h.storage.rom
      fun x hx => hl x (List.mem_cons_of_mem _ hx)
    exact hlater.hostEvents acts (hl acts List.mem_cons_self)

end Sys2Proof.Machine

/-! ### The obligations -/

namespace Sys2Proof.Settled

open Machine

/-- Settles O13: the acts of the outside keep the invariant; the dispatch and the CPU, being quiet, keep all of it but
that the picture generator is level with the clock; and `PpuStep` keeps the rest and makes it level again. -/
theorem stepKeepsInvariant : Obligations.StepKeepsInvariant := by
  intro s t h e
  have hb := h.betweenSteps
  rcases step_cases s h.boot.short with ⟨-, e'⟩ | ⟨-, u, hu, e'⟩ <;> rw [e'] at e <;> cases e
  · exact hb
  · exact (hb.mid.dispatch.cpuStep hu).finishStep

/-- Settles O5, by the equation of the fetch for each of the three lengths. -/
theorem fetchReadsAtPc : Obligations.FetchReadsAtPc := by
  rintro s op rfl
  rw [fetchInstr_eq_fetchBytes]
  rcases fetchedLength_range (readValue s.cpu.pc s) with e | e | e <;> rw [e]
  · simp [fetchBytes_one]
  · simp [fetchBytes_two]
  · simp [fetchBytes_three]

/-- Settles O22, bit by bit. -/
theorem flagsAsByte : Obligations.FlagsAsByte :=
  ⟨Flags.getLsbD_toByte, fun _ => rfl, Flags.toByte_ofByte⟩

/-- Settles O41: every instruction completes quietly. -/
theorem whatNoInstructionDoes : Obligations.WhatNoInstructionDoes := by
  intro i s
  obtain ⟨t, ht, hquiet, hime, hstopped, hhalted⟩ := exec_quietly i s
  refine ⟨t, ht, hime, hhalted, hstopped, hquiet.bootActive, hquiet.bootImage, hquiet.inputs, hquiet.ly, hquiet.mode,
    hquiet.lineCycle, hquiet.lycMatch, hquiet.visible, hquiet.fbDraw, hquiet.fbReady, hquiet.frameReady,
    hquiet.seen, ?_⟩
  rcases hquiet.dma with hd | ⟨v, hd⟩
  · exact .inl hd
  · exact .inr (by rw [show t.dma = dmaStart v from hd]; exact ⟨rfl, rfl, rfl⟩)

/-- Settles O44: the register is the divider, and a write to it moves the origin. -/
theorem divider : Obligations.Divider := by
  intro s v n hn
  refine ⟨memPeek_div s hn, memWrite_div s v, ?_⟩
  rw [memWrite_div, memPeek_div _ (by simpa [resetDiv] using hn), divider_tick_resetDiv]

/-- Settles O45, a register at a time. -/
theorem registerViews : Obligations.RegisterViews := by
  intro s v hn
  have view := fun a r => memPeek_memWrite_register s a r v hn
  refine ⟨?irqFlags, ?irqEnable, ?tac, ?stat, statByte_and_readOnly s.ppu, memPeek_register s _ .ly hn rfl (by decide),
    memWrite_ly s v, view _ .dma rfl (by decide) (by decide), ?dma, memPeek_bootOff s hn, memWrite_bootOff s v⟩
  case irqFlags => rw [view _ .irqFlags rfl (by decide) (by decide), ioRead_ioWrite_irqFlags]
  case irqEnable => rw [view _ .irqEnable rfl (by decide) (by decide), ioRead_ioWrite_irqEnable]
  case tac => rw [view _ .tac rfl (by decide) (by decide), ioRead_ioWrite_tac]
  case stat => rw [view _ .stat rfl (by decide) (by decide), ioRead_ioWrite_stat]
  case dma =>
    rw [memWrite_register s _ .dma v rfl (by decide), ← dmaStart_src]
    rfl

/-- Settles O51: the place after `PpuStep` is a function of the place and the cycles elapsed. -/
theorem phaseDependsOnPhaseOnly : Obligations.PhaseDependsOnPhaseOnly := by
  intro s t m n hl hm hc he
  have h : (ppuStep m s).beam = (ppuStep n t).beam := by rw [ppuStep_beam, ppuStep_beam, hl, hm, hc, he]
  exact ⟨congrArg Beam.ly h, congrArg Beam.mode h, congrArg Beam.off h⟩

/-- Settles O54, by what each of the transitions writes. -/
theorem framebufferDiscipline : Obligations.FramebufferDiscipline := by
  intro s t h
  rcases transition_cases h with ⟨-, -, rfl⟩ | ⟨hm, -, rfl⟩ | ⟨hm, -, hl, rfl⟩ | ⟨-, -, -, rfl⟩ | ⟨-, -, -, rfl⟩ |
    ⟨-, -, -, rfl⟩
  · simp [enterTransfer]
  · obtain ⟨fb, hp⟩ := enterHblank_ppu s
    simp [hp, hm]
  · simp [enterVblank_ppu, nextLine, hm, BitVec.eq_of_toNat_eq (y := 144#8) hl]
  · simp [enterSearch_ppu, nextLine]
  · simp [enterSearch_ppu, nextLine]
  · simp [nextLine]

/-- Settles O11: the reset values are the definition's; the acts of a gap are taken one by one. -/
theorem resetValues : Obligations.ResetValues :=
  ⟨rfl, rfl, fun q => by cases q <;> rfl, rfl, rfl, rfl, rfl, rfl, rfl, rfl, rfl, rfl, rfl, rfl, rfl, rfl, rfl, rfl, rfl,
    rfl, rfl, rfl, rfl, rfl, fun _ => rfl, fun _ => rfl, rfl, fun _ => rfl, rfl, fun _ _ _ => rfl,
    fun _ _ => ⟨rfl, rfl, rfl, rfl, rfl⟩,
    fun s e acts later => ⟨betweenSteps_nil s, betweenSteps_cons s [] later, betweenSteps_act s e acts later⟩⟩

/-- Settles O12: no store holds anything, the engine rests, and the picture generator is level with a clock of 0. -/
theorem resetMeetsInvariant : Obligations.ResetMeetsInvariant := resetWith_inv

end Sys2Proof.Settled
end

section
/-! SUPPORT. Proofs for the family 20_memory.md: the region contract, the owners of the address ranges, the reads and
writes of the bus, and the step that runs code in the core's buffers. -/

namespace Sys2Proof

/-! ### The length of an instruction (30_encoding.md R175) -/

theorem encode_decodeExtended_length (n : Byte) : (encode (decodeExtended n)).length = 2 := by
  revert n
  decide

/-- Every row of the grids has as many bytes as its first byte says. No row's length depends on its operands, so the
first bytes are gone through one by one; behind 0xCB the second byte names the row. -/
theorem encode_decodeOp_length (op n m : Byte) : (encode (decodeOp op n m)).length = fetchedLength op := by
  by_cases h : op = 0xCB#8
  · subst h
    exact encode_decodeExtended_length n
  · revert op
    exact of_decide_eq_true rfl

/-- Bytes that decode do so by as many of them as are fetched for the first, and these are the instruction's. -/
theorem decode_take {op : Byte} {bs rest : List Byte} {i : Instr} (h : decode (op :: bs) = .ok (i, rest)) :
    (encode i).length = fetchedLength op ∧ decode ((op :: bs).take (fetchedLength op)) = .ok (i, []) := by
  have hlen : ¬ bs.length + 1 < fetchedLength op := fun hs => by rw [decode_short op bs hs] at h; cases h
  rcases fetchedLength_range op with e | e | e
  · rw [decode_one op bs e] at h
    cases h
    exact ⟨encode_decodeOp_length op _ _, by rw [e]; exact decode_one op [] e⟩
  · match bs with
    | [] => simp [e] at hlen
    | n :: bs =>
      rw [decode_two op n bs e] at h
      cases h
      exact ⟨encode_decodeOp_length op _ _, by rw [e]; exact decode_two op n [] e⟩
  · match bs with
    | [] | [_] => simp [e] at hlen
    | n :: m :: bs =>
      rw [decode_three op n m bs e] at h
      cases h
      exact ⟨encode_decodeOp_length op _ _, by rw [e]; exact decode_three op n m [] e⟩

end Sys2Proof

namespace Sys2Proof.Machine

/-! ### The region contract (20_memory.md R100 to R106) -/

section

variable {β : Type}

/-- A conflict does not look at the backing. -/
theorem Region.conflicts_congr {r q : Region β} (hs : r.start = q.start) (hc : r.cap = q.cap)
    (hl : r.length = q.length) (p : Region β) : r.conflicts p = q.conflicts p := by
  simp [Region.conflicts, Region.intersects, Region.readable, Region.writable, hs, hc, hl]

/-- Two regions of one start and one capability are in conflict: every region is in a space (R101). -/
theorem Region.conflicts_of_slot {r q : Region β} (hr : r.valid = true) (hq : q.valid = true)
    (hs : r.start = q.start) (hc : r.cap = q.cap) : r.conflicts q = true := by
  simp only [Region.valid, Bool.and_eq_true, decide_eq_true_eq] at hr hq
  have hi : r.intersects q = true := by simp [Region.intersects]; omega
  cases h : q.cap <;> simp [Region.conflicts, hi, Region.readable, Region.writable, hc, h]

theorem Region.sameSlot_iff {r q : Region β} : r.sameSlot q = true ↔ r.start = q.start ∧ r.cap = q.cap := by
  simp [Region.sameSlot]

theorem RegionTable.isRegionMapped_iff (t : RegionTable β) (a : Nat) :
    t.isRegionMapped a = true ↔ ∃ q ∈ t, q.start = a := by
  simp [RegionTable.isRegionMapped]

/-- Every region of a table that keeps the contract lies in the address space (R100). -/
theorem RegionTable.valid_of_mem {t : RegionTable β} (h : t.ok = true) {p : Region β} (hp : p ∈ t) :
    p.valid = true := by
  obtain ⟨before, after, rfl⟩ := List.append_of_mem hp
  exact ((RegionTable.ok_insert before after p).mp h).1

/-- A region that conflicts is refused (R103). -/
theorem RegionTable.map_conflict {t : RegionTable β} {r : Region β} (h : ∃ q ∈ t, r.conflicts q = true) :
    t.map r = .error .mapConflict :=
  if_pos (List.any_eq_true.mpr h)

/-- A region that fits is added (R103). -/
theorem RegionTable.map_fits {t : RegionTable β} {r : Region β} (h : ∀ q ∈ t, r.conflicts q = false) :
    t.map r = .ok (t ++ [r]) :=
  if_neg (by simpa using h)

/-- The table with a region added keeps the contract (R101). -/
theorem RegionTable.ok_append {t : RegionTable β} {r : Region β} (ht : t.ok = true) (hr : r.valid = true)
    (h : ∀ q ∈ t, r.conflicts q = false) : RegionTable.ok (t ++ [r]) = true :=
  (RegionTable.ok_insert t [] r).mpr ⟨hr, by simpa using h, by simpa using ht⟩

/-- Where no region starts there is none to unmap (R104). -/
theorem RegionTable.unmap_notMapped [DecidableEq β] {t : RegionTable β} {a : Nat} (h : t.isRegionMapped a = false) :
    t.unmap a = .error .notMapped := by
  have hn : ∀ q ∈ t, q.start ≠ a := by simpa [RegionTable.isRegionMapped] using h
  have hf : t.unmapTarget a = none := by
    have h1 : (t.find? fun r => r.readable && decide (r.start = a)) = none := by simpa using fun q hq _ => hn q hq
    have h2 : (t.find? fun r => decide (r.start = a)) = none := by simpa using hn
    simp only [RegionTable.unmapTarget, h1, h2]
  simp only [RegionTable.unmap, hf]

/-- Without a region of the same start, capability and length there is none to remap (R105). -/
theorem RegionTable.remap_notMapped {t : RegionTable β} {r : Region β}
    (h : ∀ q ∈ t, ¬ (q.start = r.start ∧ q.cap = r.cap ∧ q.length = r.length)) :
    t.remap r = .error .notMapped :=
  if_neg (by simpa [Region.sameSlot, and_assoc] using h)

section

variable {before after : RegionTable β} {q : Region β} (h : RegionTable.ok (before ++ q :: after) = true)

include h

/-- No other region has both the start and the capability of one of the table: they would share a space (R101). -/
theorem RegionTable.slot_unique {p : Region β} (hp : p ∈ before ++ after) : ¬ (p.start = q.start ∧ p.cap = q.cap) := by
  rintro ⟨hs, hc⟩
  obtain ⟨hq, hconf, hrest⟩ := (RegionTable.ok_insert before after q).mp h
  have := Region.conflicts_of_slot hq (RegionTable.valid_of_mem hrest hp) hs.symm hc.symm
  simp [hconf p hp] at this

/-- What `unmap` removes: the region that starts there if no other does, and of two the one in the read space, the
other being write-only (R104, D15). -/
theorem RegionTable.unmapTarget_eq (hw : ∀ p ∈ before ++ after, p.start = q.start → p.cap = .writeOnly) :
    RegionTable.unmapTarget (before ++ q :: after) q.start = some q := by
  have hnot : ∀ p ∈ before ++ after, ¬ (p.readable = true ∧ p.start = q.start) := fun p hp ⟨hr, hs⟩ => by
    simp [Region.readable, hw p hp hs] at hr
  unfold RegionTable.unmapTarget
  cases hr : q.readable with
  | true =>
    have hb : (before.find? fun r => r.readable && decide (r.start = q.start)) = none := by
      simpa using fun p hp hpr hps => hnot p (List.mem_append_left _ hp) ⟨hpr, hps⟩
    simp [List.find?_append, hb, hr]
  | false =>
    have hq : q.cap = .writeOnly := by cases hc : q.cap <;> simp [Region.readable, hc] at hr ⊢
    have hall : ((before ++ q :: after).find? fun r => r.readable && decide (r.start = q.start)) = none := by
      simp only [List.find?_eq_none, Bool.and_eq_true, decide_eq_true_eq]
      intro p hp
      rcases List.mem_cons.mp (List.perm_middle.mem_iff.mp hp) with rfl | hp
      · simp [hr]
      · exact hnot p hp
    have hb : (before.find? fun r => decide (r.start = q.start)) = none := by
      simp only [List.find?_eq_none, decide_eq_true_eq]
      intro p hp hps
      have hm := List.mem_append_left after hp
      exact RegionTable.slot_unique h hm ⟨hps, (hw p hm hps).trans hq.symm⟩
    simp [hall, List.find?_append, hb]

/-- `unmap` removes that region and no other (R104). -/
theorem RegionTable.unmap_eq [DecidableEq β]
    (hw : ∀ p ∈ before ++ after, p.start = q.start → p.cap = .writeOnly) :
    RegionTable.unmap (before ++ q :: after) q.start = .ok (before ++ after) := by
  have hq : q ∉ before := fun hm => RegionTable.slot_unique h (List.mem_append_left after hm) ⟨rfl, rfl⟩
  simp only [RegionTable.unmap, RegionTable.unmapTarget_eq h hw, List.erase_append_right _ hq, List.erase_cons_head]

/-- `remap` replaces the region of that start, capability and length, and no other (R105). -/
theorem RegionTable.remap_eq {r : Region β} (hs : r.start = q.start) (hc : r.cap = q.cap) (hl : r.length = q.length) :
    RegionTable.remap (before ++ q :: after) r = .ok (before ++ r :: after) := by
  have hq : q.sameSlot r = true := Region.sameSlot_iff.mpr ⟨hs.symm, hc.symm⟩
  have hkeep : ∀ t : RegionTable β, t ⊆ before ++ after → List.map (fun p => if p.sameSlot r then r else p) t = t := by
    refine fun t ht => (List.map_congr_left fun p hp => if_neg fun e => ?_).trans (List.map_id t)
    rw [Region.sameSlot_iff, hs, hc] at e
    exact RegionTable.slot_unique h (ht hp) e
  unfold RegionTable.remap
  rw [if_pos (List.any_eq_true.mpr ⟨q, by simp, by simp [hq, hl]⟩), List.map_append, List.map_cons, if_pos hq,
    hkeep before (List.subset_append_left ..), hkeep after (List.subset_append_right ..)]

/-- A region may stand for another of its range and capability (R105). -/
theorem RegionTable.ok_replace {r : Region β} (hs : r.start = q.start) (hc : r.cap = q.cap)
    (hl : r.length = q.length) : RegionTable.ok (before ++ r :: after) = true := by
  obtain ⟨hv, hconf, hrest⟩ := (RegionTable.ok_insert before after q).mp h
  refine (RegionTable.ok_insert before after r).mpr ⟨?_, fun p hp => ?_, hrest⟩
  · simpa [Region.valid, hs, hl] using hv
  · rw [Region.conflicts_congr hs hc hl, hconf p hp]

end

end

/-! ### The owners of the address ranges (20_memory.md R130, R133) -/

/-- While the overlay is mapped it answers the addresses it covers (R133). -/
theorem readOwner_overlay (n : Nat) (a : Word) (hn : n ≤ 256) (ha : a.toNat < n) :
    readOwner true n a = some .boot := by
  rw [readOwner_iff true n a _ hn]
  refine ⟨⟨0, n, .readOnly, .boot⟩, ?_, rfl, by simp [Region.covers, ha], rfl⟩
  have h0 : 0 < n := by omega
  simp [platformMap, lowRegions_eq, h0]

/-- Where the overlay does not stand, the cartridge's two windows are the collaborator's (R130, R133). -/
theorem readOwner_rom (b : Bool) (n : Nat) (a : Word) (hn : n ≤ 256) (ha : a.toNat < 0x8000)
    (hb : b = false ∨ n ≤ a.toNat) : readOwner b n a = some .ext := by
  rw [readOwner_iff b n a _ hn]
  by_cases hw : 0x4000 ≤ a.toNat
  · refine ⟨⟨0x4000, 0x4000, .readOnly, .ext⟩, by simp [platformMap, wideRegions_eq], rfl, ?_, rfl⟩
    simp [Region.covers]
    omega
  · simp only [platformMap, lowRegions_eq]
    split
    · next hm =>
      have hna : n ≤ a.toNat := hb.resolve_left (by simp_all)
      refine ⟨⟨n, 0x4000 - n, .readOnly, .ext⟩, by simp, rfl, ?_, rfl⟩
      simp [Region.covers]
      omega
    · refine ⟨⟨0, 0x4000, .readOnly, .ext⟩, by simp, rfl, ?_, rfl⟩
      simp [Region.covers]
      omega

/-- Behind the overlay the read space does not depend on it (R133). -/
theorem readOwner_behind (b : Bool) (n : Nat) (a : Word) (hn : n ≤ 256) (ha : n ≤ a.toNat) :
    readOwner b n a = readOwner false 0 a := by
  by_cases hw : 0x4000 ≤ a.toNat
  · exact readOwner_above b n a (by omega) hw
  · rw [readOwner_rom b n a hn (by omega) (.inr ha), readOwner_rom false 0 a (by omega) (by omega) (.inl rfl)]

/-- The ranges of the map that no region covers (R130, R132). -/
def unmappedAddress (a : Nat) : Prop :=
  (0xE000 ≤ a ∧ a < 0xFE00) ∨ (0xFEA0 ≤ a ∧ a < 0xFF00) ∨ a = 0xFF03 ∨ (0xFF08 ≤ a ∧ a < 0xFF0F) ∨
    (0xFF4C ≤ a ∧ a < 0xFF50) ∨ (0xFF51 ≤ a ∧ a < 0xFF80)

/-- No region of the map, whatever the controller, stands in these ranges. -/
theorem platformMap_not_covers (c : Bool) (a : Nat) (h : unmappedAddress a) :
    ∀ q ∈ platformMap false 0 c, q.covers a = false := by
  unfold unmappedAddress at h
  cases c <;>
    simp [platformMap, lowRegions_eq, controlRegions_eq, wideRegions_eq, registerRegions_eq, Region.covers] <;>
    omega

theorem readOwner_unmapped (b : Bool) (n : Nat) (a : Word) (hn : n ≤ 256) (h : unmappedAddress a.toNat) :
    readOwner b n a = none := by
  have ha : n ≤ a.toNat := by unfold unmappedAddress at h; omega
  rw [readOwner_behind b n a hn ha, readOwner, RegionTable.readAt, Option.map_eq_none_iff, List.find?_eq_none]
  intro q hq
  simp [platformMap_not_covers false _ h q hq]

theorem writeOwner_unmapped (c : Bool) (a : Word) (h : unmappedAddress a.toNat) : writeOwner c a = none := by
  rw [writeOwner, RegionTable.writeAt, Option.map_eq_none_iff, List.find?_eq_none]
  intro q hq
  simp [platformMap_not_covers c _ h q hq]

/-! ### Reads and writes of the bus (20_memory.md R110 to R112, R124) -/

section

variable (s : State) (a b : Word) (v : Byte)

/-- An unmapped address reads as open bus, and the read leaves nothing behind (R112). -/
theorem memRead_unmapped (hn : s.bootImage.length ≤ 256) (h : unmappedAddress a.toNat) :
    memRead a s = (0xFF#8, s) := by
  have ho : s.readOwner a = none := readOwner_unmapped _ _ a hn h
  simp only [memRead, memPeek, memReadEffect, ho]
  rfl

/-- A write to an unmapped address is ignored (R112). -/
theorem memWrite_unmapped (h : unmappedAddress a.toNat) : memWrite a v s = s := by
  have ho : s.writeOwner a = none := writeOwner_unmapped _ a h
  simp only [memWrite, memWrite?, ho, Option.getD_none]

/-- What the overlay covers reads as the boot image (R133). -/
theorem memPeek_overlay (hn : s.bootImage.length ≤ 256) (hb : s.bootActive = true) {v : Byte}
    (h : s.bootImage[a.toNat]? = some v) : memPeek a s = some v := by
  have ho : s.readOwner a = some .boot := by
    rw [State.readOwner, hb]
    exact readOwner_overlay _ a hn (List.getElem?_eq_some_iff.mp h).1
  simp [memPeek, ho, cfg, h]

/-- Where the overlay does not stand, the cartridge's windows read as the collaborator answers (R133, R134). -/
theorem memPeek_rom (hn : s.bootImage.length ≤ 256) (ha : a.toNat < 0x8000)
    (hb : s.bootActive = false ∨ s.bootImage.length ≤ a.toNat) : memPeek a s = s.ext.answer a := by
  have ho : s.readOwner a = some .ext := readOwner_rom _ _ a hn ha hb
  simp only [memPeek, ho]

/-- A banking controller sees every write below 0x8000 (R111, R130). -/
theorem memWrite?_control (ha : a.toNat < 0x8000) (hc : s.ext.hasController = true) :
    memWrite? a v s = some { s with ext := s.ext.note (.write a v) } := by
  have ho : s.writeOwner a = some .ext := by rw [State.writeOwner, writeOwner_rom _ a ha, hc, if_pos rfl]
  simp only [memWrite?, ho]

/-- A read of one of the core's addresses leaves nothing behind (R124). -/
theorem memReadEffect_core (h : s.readOwner a ≠ some .ext) : memReadEffect a s = s :=
  (memReadEffect_cases a s).resolve_right fun e => h e.1

/-- What an address reads as depends on its owner, and on what the owner holds (R110). -/
theorem memPeek_congr {s t : State} {a : Word} (ho : t.readOwner a = s.readOwner a) (hi : t.bootImage = s.bootImage)
    (he : s.readOwner a = some .ext → t.ext = s.ext)
    (hm : s.readOwner a = some .buffer → t.mem.read a.toNat = s.mem.read a.toNat)
    (hr : ∀ r, s.readOwner a = some (.io r) → ioRead r t = ioRead r s) : memPeek a t = memPeek a s := by
  unfold memPeek
  rw [ho]
  cases h : s.readOwner a with
  | none => rfl
  | some k =>
    cases k with
    | boot => simp only [hi]
    | ext => simp only [he h]
    | buffer => simp only [hm h]
    | io r => simp only [hr r h]

end

section

variable (r q : IoReg) (s : State) (a b : Word) (v : Byte)

/-- No register's write but the boot-disable register's moves the overlay (R133). -/
theorem ioWrite_bootActive_other (h : r ≠ .bootOff) : (ioWrite r v s).bootActive = s.bootActive := by
  cases r with
  | bootOff => exact absurd rfl h
  | _ => rfl

/-- A register written is read at no other register: no two share what they hold (10_state.md R43 to R73). -/
theorem ioRead_ioWrite_other (h : q ≠ r) : ioRead q (ioWrite r v s) = ioRead q s := by
  cases r with
  | bootOff => cases q <;> simp only [ioWrite] <;> split <;> rfl
  | _ => cases q <;> first | exact absurd rfl h | rfl

/-- A write to any address but the boot-disable register's leaves the overlay. -/
theorem memWrite_bootActive (h : a ≠ 0xFF50#16) : (memWrite a v s).bootActive = s.bootActive := by
  rcases memWrite_cases a v s with ⟨-, e⟩ | ⟨-, e⟩ | ⟨-, e⟩ | ⟨r, -, ha, e⟩ <;> rw [e]
  refine ioWrite_bootActive_other r s v ?_
  rintro rfl
  exact h (BitVec.eq_of_toNat_eq ha)

/-- A write leaves the owner of an address, unless it unmaps the overlay over it (R133). -/
theorem readOwner_memWrite (hn : s.bootImage.length ≤ 256) (h : a = 0xFF50#16 → 0x0100 ≤ b.toNat) :
    (memWrite a v s).readOwner b = s.readOwner b := by
  unfold State.readOwner
  rw [memWrite_bootImage]
  by_cases ha : a = 0xFF50#16
  · have hb : s.bootImage.length ≤ b.toNat := Nat.le_trans hn (h ha)
    rw [readOwner_behind _ _ b hn hb, readOwner_behind s.bootActive _ b hn hb]
  · rw [memWrite_bootActive s a v ha]

/-- A write to an address leaves every register of another (R124). -/
theorem ioRead_memWrite_other (h : b ≠ a) (hb : b.toNat = cfg.ioAddress q) :
    ioRead q (memWrite a v s) = ioRead q s := by
  rcases memWrite_cases a v s with ⟨-, e⟩ | ⟨-, e⟩ | ⟨-, e⟩ | ⟨r, -, ha, e⟩ <;> rw [e]
  · rfl
  · rfl
  · refine ioRead_ioWrite_other r q s v ?_
    rintro rfl
    exact h (BitVec.eq_of_toNat_eq (hb.trans ha.symm))

/-- The registers that are plain storage (R124, R131). -/
def plainRegisters : List IoReg := [.tima, .tma, .lcdc, .scy, .scx, .lyc, .bgp, .obp0, .obp1, .wy, .wx]

/-- A plain register reads as it was written. -/
theorem ioRead_ioWrite_plain (h : r ∈ plainRegisters) : ioRead r (ioWrite r v s) = v := by
  simp only [plainRegisters, List.mem_cons, List.not_mem_nil, or_false] at h
  rcases h with rfl | rfl | rfl | rfl | rfl | rfl | rfl | rfl | rfl | rfl | rfl <;> rfl

/-- Each has its own address, and is both read and written. -/
theorem plainRegisters_readWrite : ∀ r ∈ plainRegisters,
    (BitVec.ofNat 16 (cfg.ioAddress r)).toNat = cfg.ioAddress r ∧ r ≠ .bootOff ∧ r ≠ .ly := by
  decide

/-- A byte written to a buffer is read back (R124). -/
theorem memPeek_memWrite_buffer (hs : s.StorageOk) (hn : s.bootImage.length ≤ 256)
    (h : bufferAddress a.toNat = true) : memPeek a (memWrite a v s) = some v := by
  rw [memPeek_buffer _ a (by simpa using hn) h, memWrite_buffer a v s h]
  exact congrArg some (Sparse.get_set_same s.mem a.toNat v hs.mem)

end

/-! ### The fetch from the core's buffers (20_memory.md R152) -/

section

variable (a : Word) (s : State)

theorem readValue_buffer (hn : s.bootImage.length ≤ 256) (h : bufferAddress a.toNat = true) :
    readValue a s = s.mem.read a.toNat := by
  rw [readValue, memPeek_buffer _ a (by simpa using hn) h, tick_mem, Option.getD_some]

theorem afterRead_buffer (hn : s.bootImage.length ≤ 256) (h : bufferAddress a.toNat = true) :
    afterRead a s = tick 4 s :=
  memReadEffect_buffer _ a (by simpa using hn) h

theorem bufferAddress_lt {a : Nat} (h : bufferAddress a = true) : a < 0xFFFF := by
  simp [bufferAddress] at h
  omega

/-- A fetch from the buffers reads their bytes, 4 cycles each, and leaves PC behind them (R152; 00_scope.md R12). -/
theorem fetchBytes_buffer (k : Nat) (hn : s.bootImage.length ≤ 256)
    (h : ∀ j, j < k → bufferAddress (s.cpu.pc.toNat + j) = true) :
    fetchBytes k s = ((List.range' s.cpu.pc.toNat k).map s.mem.read,
      { tick (4 * k) s with cpu := { s.cpu with pc := s.cpu.pc + BitVec.ofNat 16 k } }) := by
  induction k generalizing s with
  | zero => simp [fetchBytes]
  | succ k ih =>
    have h0 : bufferAddress s.cpu.pc.toNat = true := h 0 (by omega)
    have hlt := bufferAddress_lt h0
    have hnext : (s.cpu.pc + 1#16).toNat = s.cpu.pc.toNat + 1 := by bv_omega
    have hpc : s.cpu.pc + 1#16 + BitVec.ofNat 16 k = s.cpu.pc + BitVec.ofNat 16 (k + 1) := by bv_omega
    have hclock : 4 + 4 * k = 4 * (k + 1) := by omega
    have hfetch : fetch8 s = (s.mem.read s.cpu.pc.toNat,
        { tick 4 s with cpu := { s.cpu with pc := s.cpu.pc + 1#16 } }) := by
      rw [fetch8_eq, readValue_buffer _ s hn h0, afterRead_buffer _ s hn h0]
    rw [fetchBytes, hfetch, ih _ (by simpa using hn) fun j hj => ?_]
    · simp only [tick_withCpu, tick_tick, hclock, hnext, hpc, List.range'_succ, List.map_cons]
      rw [tick_mem]
    · rw [hnext, Nat.add_right_comm]
      exact h (j + 1) (by omega)

end

/-! ### The step (60_exceptions.md R440) -/

/-- A machine with an oversized boot image is not started (R133). -/
theorem step_oversized (s : State) (h : 256 < s.bootImage.length) : step s = .fault .oversizedBootImage :=
  if_pos h

/-- The step runs the instruction the fetched bytes decode to, with the picture generator behind it (R440). -/
theorem step_runs_decoded {s : State} {i : Instr} {rest : List Byte} (hn : s.bootImage.length ≤ 256)
    (hs : (betweenSteps s).stopped = none) (hh : (atFetch s).cpu.halted = false)
    (hd : decode (fetchInstr (atFetch s)).1 = .ok (i, rest)) :
    step s = stepEnds (exec i (fetchInstr (atFetch s)).2) := by
  have hcpu : cpuStep (atFetch s) = exec i (fetchInstr (atFetch s)).2 := by
    unfold cpuStep
    rw [hh]
    simp only [Bool.false_eq_true, if_false, hd]
  rcases step_cases s hn with ⟨h, -⟩ | ⟨-, t, ht, hstep⟩
  · exact absurd hs h
  · rw [hstep, ← hcpu, show cpuStep (atFetch s) = .next t from ht]
    rfl

/-- A running machine with interrupts off and no act of the outside fetches in the state it is in (R414, R442). -/
theorem atFetch_running {s : State} (hi : s.inputs = []) (hh : s.cpu.halted = false) (hime : s.irq.ime = false) :
    atFetch s = s := by
  rw [atFetch, betweenSteps_nil s hi, dispatch, hh, hime]
  rfl

end Sys2Proof.Machine

/-! ### The obligations -/

namespace Sys2Proof.Settled

open Machine

/-- Settles O60: each result of `map`, `unmap` and `remap` by its lemma. A region just mapped is the table's last, and
unmapping it gives the table back because no other starts there. -/
theorem regionContract : Obligations.RegionContract := by
  refine ⟨platformMap_ok, fun t r ht hr => ⟨RegionTable.map_conflict, RegionTable.unmap_notMapped, fun hfit => ?_,
    RegionTable.remap_notMapped⟩, ?_, RegionTable.isRegionMapped_iff⟩
  · have hok := RegionTable.ok_append ht hr hfit
    refine ⟨t ++ [r], RegionTable.map_fits hfit, hok, (RegionTable.isRegionMapped_iff _ _).mpr ⟨r, by simp, rfl⟩,
      fun hfree => ?_⟩
    have hnone : ∀ p ∈ t ++ [], p.start = r.start → p.cap = .writeOnly := fun p hp hs => by
      have := (RegionTable.isRegionMapped_iff t r.start).mpr ⟨p, by simpa using hp, hs⟩
      simp [hfree] at this
    simpa using RegionTable.unmap_eq hok hnone
  · rintro t before after q ht rfl
    exact ⟨fun hw => ⟨RegionTable.unmap_eq ht hw, ((RegionTable.ok_insert before after q).mp ht).2.2⟩,
      fun r hs hc hl => ⟨RegionTable.remap_eq ht hs hc hl, RegionTable.ok_replace ht hs hc hl⟩⟩

/-- Settles O10: the step of a started machine is that of its parts, which answer a next state. -/
theorem stepAnswers : Obligations.StepAnswers := by
  refine fun s => ⟨fun h => ?_, step_oversized s⟩
  rcases step_cases s h with ⟨-, e⟩ | ⟨-, t, -, e⟩ <;> exact ⟨_, e⟩

/-- Settles O46: a buffer by its store, a plain register by its two accessors. -/
theorem plainStorage : Obligations.PlainStorage := by
  rintro s a v hs hn (ha | ha)
  · exact memPeek_memWrite_buffer s a v hs hn ha
  · obtain ⟨r, hr, rfl⟩ := List.mem_map.mp
      (show a ∈ plainRegisters.map (fun r => BitVec.ofNat 16 (cfg.ioAddress r)) from ha)
    obtain ⟨haddr, hb, hl⟩ := plainRegisters_readWrite r hr
    rw [memPeek_memWrite_register s _ r v hn haddr hb hl, ioRead_ioWrite_plain r s v hr]

/-- Settles O47: the write leaves the owner of the other address, and what that owner holds. -/
theorem writeFrame : Obligations.WriteFrame := by
  intro s a b v hn hab hext hoff
  refine memPeek_congr (readOwner_memWrite s a b v hn hoff) (memWrite_bootImage a v s) (fun e => absurd e hext)
    (fun _ => memWrite_mem_other a v s _ fun e => hab (BitVec.eq_of_toNat_eq e)) fun r e => ?_
  exact ioRead_memWrite_other r s a b v hab (readOwner_io hn e).1

/-- Settles O48: a read is noted by the collaborators alone, and no region covers an unmapped address. -/
theorem readsAndUnmapped : Obligations.ReadsAndUnmapped := by
  refine fun s a v hn => ⟨?_, memReadEffect_core s a, fun h => ⟨memRead_unmapped s a hn h, memWrite_unmapped s a v h⟩⟩
  rcases memReadEffect_cases a s with e | ⟨-, e⟩
  · exact ⟨s.ext, e⟩
  · exact ⟨_, e⟩

/-- Settles O49: a read by its owner, the overlay or the collaborator; a write by the banking control, if any. -/
theorem bootOverlay : Obligations.BootOverlay := by
  intro s a v hn ha
  have hrom : s.ext.hasController = false → memWrite? a v s = none := memWrite_rom s a v ha
  have hcontrol : s.ext.hasController = true → memWrite? a v s = some { s with ext := s.ext.note (.write a v) } :=
    memWrite?_control s a v ha
  refine ⟨fun hb b => memPeek_overlay s a hn hb, memPeek_rom s a hn ha, ?_, fun rom e => ?_, fun seen e => ?_⟩
  · cases hc : s.ext.hasController with
    | false => exact ⟨s.ext, by simp [memWrite, hrom hc]⟩
    | true => exact ⟨_, by rw [memWrite, hcontrol hc, Option.getD_some]⟩
  · have hnone := hrom (by rw [e]; rfl)
    exact ⟨hnone, by rw [memWrite, hnone, Option.getD_none], by rw [e]; exact if_pos ha⟩
  · rw [hcontrol (by rw [e]; rfl), e]
    rfl

/-- Settles O6: the machine fetches as many of the three bytes as the instruction has, and these decode to it. -/
theorem stepRunsCodeInMemory : Obligations.StepRunsCodeInMemory := by
  intro s i rest hn hi hs hh hime _ hbuf hd
  obtain ⟨hlen, htake⟩ := decode_take hd
  have hop : readValue s.cpu.pc s = s.mem.read s.cpu.pc.toNat := readValue_buffer _ s hn (hbuf 0 (by omega))
  have hrange := fetchedLength_range (s.mem.read s.cpu.pc.toNat)
  have hfetch := fetchBytes_buffer s (encode i).length hn fun j hj => hbuf j (by omega)
  have hbytes : (List.range' s.cpu.pc.toNat (encode i).length).map s.mem.read =
      [s.mem.read s.cpu.pc.toNat, s.mem.read (s.cpu.pc.toNat + 1), s.mem.read (s.cpu.pc.toNat + 2)].take
        (encode i).length := by
    rw [hlen]
    rcases hrange with e | e | e <;> rw [e] <;> rfl
  have hat := atFetch_running hi hh hime
  have hinstr : fetchInstr (atFetch s) = fetchBytes (encode i).length s := by
    rw [hat, fetchInstr_eq_fetchBytes, hop, hlen]
  rw [hfetch] at hinstr
  rw [step_runs_decoded hn (by rwa [betweenSteps_nil s hi]) (by rwa [hat]) (i := i) (rest := []), hinstr]
  rw [hinstr, hbytes, hlen]
  exact htake

end Sys2Proof.Settled
end

section
/-! SUPPORT. Proofs for the family 30_encoding.md: the fields of a first byte name its row of the grids, the bytes of a
row are its first byte and its operands, and bytes that are enough decode to the row they are of. -/

namespace Sys2Proof

/-! ### The fields of an opcode byte (30_encoding.md R161) -/

/-- The opcode byte of the fields x, y and z. -/
def opByte (x y z : Nat) : Byte := BitVec.ofNat 8 (64 * x + 8 * y + z)

theorem opByte_fields (op : Byte) : opByte (fieldX op) (fieldY op) (fieldZ op) = op := by
  unfold opByte fieldX fieldY fieldZ
  bv_omega

theorem fieldX_lt (op : Byte) : fieldX op < 4 := by
  unfold fieldX
  omega

theorem fieldY_lt (op : Byte) : fieldY op < 8 := Nat.mod_lt _ (by decide)

theorem fieldZ_lt (op : Byte) : fieldZ op < 8 := Nat.mod_lt _ (by decide)

/-! ### The bytes of a row (30_encoding.md R175, R179, R180) -/

/-- The bytes of a row whose first byte is `op`: behind it nothing, a byte, or a word low byte first (R140). -/
def rowBytes (op n : Byte) (w : Word) : List Byte :=
  match fetchedLength op with
  | 1 => [op]
  | 2 => [op, n]
  | _ => [op, lo w, hi w]

/-- Behind the prefix the second byte names the row: all 256 are assigned (R180). -/
theorem encode_decodeExtended (n : Byte) : encode (decodeExtended n) = [0xCB#8, n] := by
  revert n
  decide

/-- No second byte gives the row `PREFIX_CB` (47_system.md R386). -/
theorem decodeExtended_wellFormed (n : Byte) : (decodeExtended n).WellFormed := by
  revert n
  decide

section

variable {y z : Nat} (hy : y < 8) (hz : z < 8) (n m : Byte)

include hy hz

/-- The rows with x = 0 (R168). -/
theorem encode_decodeGroup0 : encode (decodeGroup0 y z n m) = rowBytes (opByte 0 y z) n (pairOf m n) := by
  interval_cases z <;> interval_cases y <;> rfl

/-- The rows with x = 1 (R169). -/
theorem encode_decodeGroup1 (w : Word) : encode (decodeGroup1 y z) = rowBytes (opByte 1 y z) n w := by
  interval_cases z <;> interval_cases y <;> rfl

/-- The rows with x = 2 (R170). -/
theorem encode_decodeGroup2 (w : Word) : encode (decodeGroup2 y z) = rowBytes (opByte 2 y z) n w := by
  interval_cases z <;> interval_cases y <;> rfl

/-- The rows with x = 3 (R171); y = 1 and z = 3 is the prefix, behind which the row is an extended one. -/
theorem encode_decodeGroup3 : encode (decodeGroup3 y z n m) = rowBytes (opByte 3 y z) n (pairOf m n) := by
  by_cases hprefix : y = 1 ∧ z = 3
  · obtain ⟨rfl, rfl⟩ := hprefix
    exact encode_decodeExtended n
  · interval_cases z <;> interval_cases y <;> simp at hprefix <;> rfl

end

/-- The instruction decoded from a first byte is encoded as that byte and its operands: the fields give the byte back,
and each group gives back the byte of its fields. -/
theorem encode_decodeOp (op n m : Byte) : encode (decodeOp op n m) = rowBytes op n (pairOf m n) := by
  have hx := fieldX_lt op
  have hy := fieldY_lt op
  have hz := fieldZ_lt op
  have hop := opByte_fields op
  unfold decodeOp
  generalize fieldX op = x, fieldY op = y, fieldZ op = z at *
  subst hop
  interval_cases x
  · exact encode_decodeGroup0 hy hz n m
  · exact encode_decodeGroup1 hy hz n _
  · exact encode_decodeGroup2 hy hz n _
  · exact encode_decodeGroup3 hy hz n m

/-- No first byte gives the row `PREFIX_CB`: the prefix gives an extended row (47_system.md R386). Whether a row is
well-formed does not depend on its operands, so the other first bytes are gone through one by one. -/
theorem decodeOp_wellFormed (op n m : Byte) : (decodeOp op n m).WellFormed := by
  by_cases h : op = 0xCB#8
  · subst h
    exact decodeExtended_wellFormed n
  · revert op
    exact of_decide_eq_true rfl

/-! ### What a decode can answer (30_encoding.md R173, R175) -/

/-- A first byte with enough bytes behind it decodes, and the bytes begin with those of the instruction. -/
theorem decode_enough {op : Byte} {rest : List Byte} (h : fetchedLength op ≤ rest.length + 1) :
    ∃ n m tail, decode (op :: rest) = .ok (decodeOp op n m, tail) ∧ op :: rest = encode (decodeOp op n m) ++ tail := by
  simp only [encode_decodeOp]
  rcases fetchedLength_range op with e | e | e
  · exact ⟨_, _, rest, decode_one op rest e, by simp [rowBytes, e]⟩
  · match rest with
    | [] => simp [e] at h
    | n :: tail => exact ⟨n, _, tail, decode_two op n tail e, by simp [rowBytes, e]⟩
  · match rest with
    | [] | [_] => simp [e] at h
    | n :: m :: tail => exact ⟨n, m, tail, decode_three op n m tail e, by simp [rowBytes, e]⟩

end Sys2Proof

/-! ### The obligations -/

namespace Sys2Proof.Settled

/-- Settles O3: bytes that are enough decode to the instruction they are the bytes of, and bytes too few do not
decode. -/
theorem encodeOfDecode : Obligations.EncodeOfDecode := by
  refine ⟨fun bs rest i hd => ?decoded, fun op rest => ⟨fun ⟨e, he⟩ => ?short, fun h => ⟨_, decode_short op rest h⟩⟩,
    fun op => ?lengths⟩
  case decoded =>
    match bs with
    | [] => cases hd
    | op :: bs =>
      rcases Nat.lt_or_ge (bs.length + 1) (fetchedLength op) with h | h
      · rw [decode_short op bs h] at hd
        cases hd
      · obtain ⟨n, m, tail, hrow, hbytes⟩ := decode_enough h
        cases hrow.symm.trans hd
        exact ⟨decodeOp_wellFormed op n m, hbytes⟩
  case short =>
    by_contra h
    obtain ⟨n, m, tail, hd, -⟩ := decode_enough (Nat.le_of_not_lt h)
    cases hd.symm.trans he
  case lengths => rcases fetchedLength_range op with e | e | e <;> simp [e]

/-- Settles O1: each of the twelve words is decoded by computation. -/
theorem sampleWordsDecode : Obligations.SampleWordsDecode :=
  ⟨rfl, rfl, rfl, rfl, rfl, rfl, rfl, rfl, rfl, rfl, rfl, rfl⟩

end Sys2Proof.Settled
end

section
/-! SUPPORT. Proofs for the family 40_load8.md: what a write of a register or of HL keeps, the state each form of a load
or a store ends in, and what that state says of the registers and of memory. -/

namespace Sys2Proof.Machine

/-! ### What a write of the register file keeps (10_state.md R31, R33) -/

section

variable {s u : State} (h : u.cpu = s.cpu)

include h

/-- A state that holds the CPU of `s` has kept its registers. -/
theorem RegsKept.of_cpu : RegsKept s u := State.reg_congr h

theorem SpecialsKept.of_cpu : SpecialsKept s u := by simp [SpecialsKept, h]

theorem RegWritten.setReg (r : Reg8) (v : Byte) : RegWritten r v s (u.setReg r v) :=
  ⟨by rw [State.reg_setReg, if_pos rfl], fun q hq => by rw [State.reg_setReg, if_neg hq, State.reg_congr h]⟩

theorem SpecialsKept.setReg (r : Reg8) (v : Byte) : SpecialsKept s (u.setReg r v) := by simp [SpecialsKept, h]

theorem SpecialsKept.setHl (w : Word) : SpecialsKept s (u.setHl w) := by simp [SpecialsKept, h]

theorem HlWritten.setHl (w : Word) : HlWritten w s (u.setHl w) := by
  refine ⟨State.hl_setHl u w, fun q hqh hql => ?_⟩
  rw [← State.reg_congr h q]
  cases q with
  | h => exact absurd rfl hqh
  | l => exact absurd rfl hql
  | a | b | c | d | e => rfl

end

/-- A charged bus write keeps the CPU. -/
theorem memWrite_tick_cpu (a : Word) (v : Byte) (n : Nat) (s : State) : (memWrite a v (tick n s)).cpu = s.cpu :=
  (memWrite_cpu a v _).trans (tick_cpu n s)

/-- A charged bus write changes no byte but the one at its address (20_memory.md R111). -/
theorem memWrite_tick_bytes (a : Word) (v : Byte) (n : Nat) (s : State) :
    BytesKeptBut a s (memWrite a v (tick n s)) := fun b hb => by
  rw [memWrite_mem_other a v _ b hb, tick_mem]

/-! ### The state a load or a store ends in (40_load8.md) -/

/-- The page of `LDH` begins at 0xFF00 (30_encoding.md R167). -/
theorem highPage_eq (n : Byte) : highPage n = BitVec.ofNat 16 (0xFF00 + n.toNat) := by
  unfold highPage zext16
  bv_omega

section

variable {a : Word} {v : Byte} {s : State}

/-- A load of a register from a memory operand: the read, the operand's own effect, the register. -/
theorem ld_from_memory (o : Operand) (r : Reg8) (ha : operandAddress o s = some a) :
    ld (.reg r) o s = .next ((operandAfter o (afterRead a s)).setReg r (readValue a s)) := by
  rw [ld, rd_memory a s o ha, wr_reg]

/-- A load to a memory operand from a source read at no cost: the write, the operand's own effect. -/
theorem ld_to_memory (o : Operand) {src : Operand} (hsrc : rd src s = (v, s)) (ha : operandAddress o s = some a) :
    ld o src s = .next (operandAfter o (memWrite a v (tick 4 s))) := by
  rw [ld, hsrc, wr_memory a v s o ha]

end

section

variable {i : Instr} {r : Reg8} {a w : Word} {v : Byte} {s : State}

/-- The load of a register, from no memory operand (R201, R202). -/
theorem exec_loadsRegister (h : exec i s = .next (s.setReg r v)) : ∃ t, exec i s = .next t ∧ RegWritten r v s t ∧
    t.cpu.f = s.cpu.f ∧ SpecialsKept s t ∧ OutsideCpu s t :=
  ⟨_, h, .setReg rfl r v, Cpu.setReg_f r v s.cpu, .setReg rfl r v, .withCpu _ s⟩

/-- The load of a register from memory (R203, R206, R207, R210, R212, R214). -/
theorem LoadsFrom.of_exec (h : exec i s = .next ((afterRead a s).setReg r (readValue a s))) : LoadsFrom i r a s :=
  have hcpu := afterRead_cpu a s
  ⟨_, h, .setReg hcpu r _, by simp, .setReg hcpu r _, .withCpu _ _, fun b => by simp⟩

/-- The load of A from the byte at HL, which then moves (R216, R217). -/
theorem LoadsAndMovesHl.of_exec (h : exec i s = .next (((afterRead s.hl s).setHl w).setReg .a (readValue s.hl s))) :
    LoadsAndMovesHl i w s := by
  have hcpu := afterRead_cpu s.hl s
  obtain ⟨hhl, hregs⟩ := HlWritten.setHl hcpu w
  obtain ⟨ha, hother⟩ := RegWritten.setReg (rfl : ((afterRead s.hl s).setHl w).cpu = _) .a (readValue s.hl s)
  exact ⟨_, h, ha, hhl, fun q hqa hqh hql => (hother q hqa).trans (hregs q hqh hql), by simp, .setHl hcpu w,
    .withCpu _ _, fun b => by simp⟩

/-- The store of a byte (R204, R205, R208, R209, R211, R213, R215). -/
theorem StoresAt.of_exec (h : exec i s = .next (memWrite a v (tick 4 s))) : StoresAt i a v s :=
  have hcpu := memWrite_tick_cpu a v 4 s
  ⟨_, h, .refl _, memWrite_tick_bytes a v 4 s, .of_cpu hcpu, by rw [hcpu], .of_cpu hcpu⟩

/-- The store of A at HL, which then moves (R218, R219). -/
theorem StoresAndMovesHl.of_exec (h : exec i s = .next ((memWrite s.hl s.cpu.a (tick 4 s)).setHl w)) :
    StoresAndMovesHl i w s :=
  have hcpu := memWrite_tick_cpu s.hl s.cpu.a 4 s
  ⟨_, h, .withCpu _ _, memWrite_tick_bytes s.hl s.cpu.a 4 s, .setHl hcpu w, by simp, .setHl hcpu w⟩

end

end Sys2Proof.Machine

/-! ### The obligations -/

namespace Sys2Proof.Settled

open Machine

/-- Settles O17: either form is the load whose source is no memory operand. -/
theorem loadRegister : Obligations.LoadRegister := fun dst src n s =>
  ⟨exec_loadsRegister (exec_mkLdRR dst src s), exec_loadsRegister (exec_mkLdImm dst n s)⟩

/-- Settles O18: each form ends in the state of a charged read with the register written; HL moves in between where the
form says so. -/
theorem loadFromMemory : Obligations.LoadFromMemory := by
  intro dst a n s
  refine ⟨.of_exec ?hl, .of_exec ?bc, .of_exec ?de, .of_exec ?a16, .of_exec ?ldhC, .of_exec ?ldhA8, .of_exec ?inc,
    .of_exec ?dec⟩
  case hl => exact (exec_mkLdM dst s).trans (ld_from_memory .indHl dst rfl)
  case bc => exact ld_from_memory .indBc .a rfl
  case de => exact ld_from_memory .indDe .a rfl
  case a16 => exact ld_from_memory (.abs a) .a rfl
  case ldhC => exact ld_from_memory .highC .a (congrArg some (highPage_eq s.cpu.c))
  case ldhA8 => exact ld_from_memory (.high n) .a (congrArg some (highPage_eq n))
  case inc =>
    show ld (.reg .a) .indHlInc s = _
    rw [ld, rd_indHlInc, wr_reg]
  case dec =>
    show ld (.reg .a) .indHlDec s = _
    rw [ld, rd_indHlDec, wr_reg]

/-- Settles O19: each form ends in the state of a charged write, behind which HL moves where the form says so. -/
theorem storeToMemory : Obligations.StoreToMemory := by
  intro src a n s
  have ha : rd (.reg .a) s = (s.cpu.a, s) := rd_reg s .a
  refine ⟨.of_exec ?hl, .of_exec ?hlD8, .of_exec ?bc, .of_exec ?de, .of_exec ?a16, .of_exec ?ldhC, .of_exec ?ldhA8,
    .of_exec ?inc, .of_exec ?dec⟩
  case hl => exact (exec_mkLdMR src s).trans (ld_to_memory .indHl (rd_reg s src) rfl)
  case hlD8 => exact ld_to_memory .indHl (rd_imm n s) rfl
  case bc => exact ld_to_memory .indBc ha rfl
  case de => exact ld_to_memory .indDe ha rfl
  case a16 => exact ld_to_memory (.abs a) ha rfl
  case ldhC => exact ld_to_memory .highC ha (congrArg some (highPage_eq s.cpu.c))
  case ldhA8 => exact ld_to_memory (.high n) ha (congrArg some (highPage_eq n))
  case inc =>
    show ld .indHlInc (.reg .a) s = _
    rw [ld, ha, wr_indHlInc]
  case dec =>
    show ld .indHlDec (.reg .a) s = _
    rw [ld, ha, wr_indHlDec]

end Sys2Proof.Settled
end

section
/-! SUPPORT. Proofs for the family 41_load16_stack.md: what a write of a pair keeps, what two charged writes leave, the
state a push or a pop ends in, and what a stack in the core's own memory gives back. -/

namespace Sys2Proof.Machine

/-! ### The pairs of the register file (10_state.md R33, R36; 30_encoding.md R164) -/

section

variable (s : State) (w : Word)

/-- A pair written is read at no other pair. -/
theorem State.pair_setPair_other {p q : Pair} (h : q ≠ p) : (s.setPair p w).pair q = s.pair q := by
  cases p <;> cases q <;> first | rfl | exact absurd rfl h

@[simp] theorem State.setPair_cpu_a (p : Pair) : (s.setPair p w).cpu.a = s.cpu.a := by cases p <;> rfl
@[simp] theorem State.setPair_cpu_f (p : Pair) : (s.setPair p w).cpu.f = s.cpu.f := by cases p <;> rfl

theorem PairWritten.setPair (p : Pair) : PairWritten p w s (s.setPair p w) :=
  ⟨s.pair_setPair w p, fun _ hq => s.pair_setPair_other w hq, s.setPair_cpu_a w p⟩

theorem OutsideCpu.setPair (p : Pair) : OutsideCpu s (s.setPair p w) := by cases p <;> rfl

theorem OutsideCpu.setStkPair (c : Cpu) (p : StkPair) : OutsideCpu s (State.setStkPair { s with cpu := c } p w) := by
  cases p <;> rfl

@[simp] theorem State.setStkPair_cpu_sp (p : StkPair) : (s.setStkPair p w).cpu.sp = s.cpu.sp := by cases p <;> rfl

/-- Two states with the same register file hold the same pairs. -/
theorem State.stkPair_congr {s t : State} (h : t.cpu = s.cpu) (p : StkPair) : t.stkPair p = s.stkPair p := by
  unfold State.stkPair State.bc State.de State.hl
  rw [h]

/-- A pair with no flags in it is read as it was written. -/
theorem State.stkPair_setStkPair {p : StkPair} (h : p ≠ .af) : (s.setStkPair p w).stkPair p = w := by
  cases p with
  | af => exact absurd rfl h
  | bc | de | hl => exact pairOf_hi_lo w

/-- A mask of a word is a mask of its halves. -/
theorem pairOf_and (x y m n : Byte) : pairOf x y &&& pairOf m n = pairOf (x &&& m) (y &&& n) := BitVec.and_append

/-- AF written keeps A and the four flag bits of F (R36; 41_load16_stack.md R238). -/
theorem State.stkPair_setStkPair_af : (s.setStkPair .af w).stkPair .af = w &&& 0xFF0F#16 :=
  calc (s.setStkPair .af w).stkPair .af
    _ = pairOf (hi w) (Flags.ofByte (lo w)).toByte := rfl
    _ = pairOf (hi w &&& 0xFF#8) (lo w &&& 0x0F#8) := by
      rw [Flags.toByte_ofByte, show hi w &&& 0xFF#8 = hi w from BitVec.and_allOnes]
    _ = w &&& pairOf 0xFF#8 0x0F#8 := by rw [← pairOf_and, pairOf_hi_lo]

end

/-! ### Two bytes written (20_memory.md R111, R141) -/

section

variable {a b : Word} {s t u : State}

/-- One byte written and then another: no third byte has changed. -/
theorem BytesKeptBut.trans (h : BytesKeptBut a s t) (h' : BytesKeptBut b t u) : BytesKeptBut2 a b s u :=
  fun k ha hb => (h' k hb).trans (h k ha)

/-- In a canonical memory a byte of a buffer holds what was written to it. -/
theorem memWrite_mem_same (v : Byte) (hm : s.mem.wf = true) (h : bufferAddress a.toNat = true) :
    (memWrite a v s).mem.read a.toNat = v := by
  rw [memWrite_buffer a v s h]
  exact Sparse.get_set_same s.mem a.toNat v hm

end

/-! ### The states a load or a store of SP, a push and a pop end in (41_load16_stack.md R232, R233, R235 to R238) -/

section

variable (s : State) (p : StkPair)

/-- SP from HL, and an internal cycle (R233). -/
theorem exec_ldSpHl_eq : exec .ldSpHl s = .next { tick 4 s with cpu := { s.cpu with sp := s.hl } } :=
  congrArg Host.Outcome.next (tick_withCpu 4 s _)

/-- The second byte is of the SP that the first write has kept (R232). -/
theorem exec_ldMA16Sp_eq (a : Word) : exec (.ldMA16Sp a) s = .next
    (memWrite (a + 1#16) (hi s.cpu.sp) (tick 4 (memWrite a (lo s.cpu.sp) (tick 4 s)))) := by
  show ldA16Sp a s = _
  simp only [ldA16Sp, cpuWrite_eq, memWrite_tick_cpu]

theorem exec_mkPush_eq : exec (.mkPush p) s = .next
    { afterPush (s.stkPair p) (tick 4 s) with cpu := { s.cpu with sp := s.cpu.sp - 2#16 } } := by
  rw [exec_mkPush, push, internal_eq, push16_eq, State.stkPair_congr (tick_cpu 4 s), tick_cpu]

theorem exec_mkPop_eq : exec (.mkPop p) s = .next (State.setStkPair
    { afterPop s with cpu := { s.cpu with sp := s.cpu.sp + 2#16 } } p (popValue s)) := by
  rw [exec_mkPop, pop, pop16_eq]

end

/-! ### A stack in the core's own memory (20_memory.md R141) -/

section

variable {s : State}

/-- The byte pushed last is the low one, at the lower address. -/
theorem afterPush_low (w : Word) (hm : s.mem.wf = true) (h : bufferAddress (s.cpu.sp - 2#16).toNat = true) :
    (afterPush w s).mem.read (s.cpu.sp - 2#16).toNat = lo w :=
  memWrite_mem_same _ (by rw [tick_mem]; exact memWrite_mem_wf _ _ _ (by rwa [tick_mem])) h

/-- The write of the low byte leaves the high one, above it. -/
theorem afterPush_high (w : Word) (hm : s.mem.wf = true) (h : bufferAddress (s.cpu.sp - 1#16).toNat = true) :
    (afterPush w s).mem.read (s.cpu.sp - 1#16).toNat = hi w := by
  have hne : (s.cpu.sp - 1#16).toNat ≠ (s.cpu.sp - 2#16).toNat := by bv_omega
  rw [afterPush, memWrite_tick_bytes _ _ _ _ _ hne]
  exact memWrite_mem_same _ (by rwa [tick_mem]) h

theorem afterPush_bootImage (w : Word) : (afterPush w s).bootImage = s.bootImage := by simp [afterPush]

/-- A pop from the buffers takes their bytes. -/
theorem popValue_buffer (hn : s.bootImage.length ≤ 256) (hl : bufferAddress s.cpu.sp.toNat = true)
    (hh : bufferAddress (s.cpu.sp + 1#16).toNat = true) :
    popValue s = pairOf (s.mem.read (s.cpu.sp + 1#16).toNat) (s.mem.read s.cpu.sp.toNat) := by
  rw [popValue, readValue_buffer _ _ hn hl, readValue_buffer _ _ (by rwa [afterRead_bootImage]) hh, afterRead_mem]

/-- What was pushed to the buffers is popped from them. -/
theorem popValue_afterPush (w : Word) (hm : s.mem.wf = true) (hn : s.bootImage.length ≤ 256)
    (hh : bufferAddress (s.cpu.sp - 1#16).toNat = true) (hl : bufferAddress (s.cpu.sp - 2#16).toNat = true)
    (c : Cpu) (hc : c.sp = s.cpu.sp - 2#16) : popValue { afterPush w s with cpu := c } = w := by
  have hsp : c.sp + 1#16 = s.cpu.sp - 1#16 := by rw [hc]; bv_omega
  rw [popValue_buffer (by rwa [afterPush_bootImage]) (by rwa [hc]) (by rwa [hsp])]
  show pairOf ((afterPush w s).mem.read (c.sp + 1#16).toNat) ((afterPush w s).mem.read c.sp.toNat) = w
  rw [hsp, hc, afterPush_high w hm hh, afterPush_low w hm hl, pairOf_hi_lo]

end

end Sys2Proof.Machine

/-! ### The obligations -/

namespace Sys2Proof.Settled

open Machine

/-- Settles O20: the pair is a write of the register file, SP takes HL before an internal cycle, and SP is stored by two
charged writes, the second of the SP that the first has kept. -/
theorem sixteenBitLoads : Obligations.SixteenBitLoads := by
  intro p n s
  refine ⟨⟨_, exec_mkLdPair p n s, .setPair s n p, s.setPair_cpu_f n p, s.setPair_cpu_pc n p, s.setPair_cpu_halted n p,
    .setPair s n p⟩, ⟨_, exec_ldSpHl_eq s, rfl, .withCpu _ _⟩, ⟨_, exec_ldMA16Sp_eq s n, ?cpu, .refl _, ?bytes⟩⟩
  case cpu => rw [memWrite_tick_cpu, memWrite_tick_cpu]
  case bytes => exact (memWrite_tick_bytes n _ 4 s).trans (memWrite_tick_bytes (n + 1#16) _ 4 _)

/-- Settles O23: a push writes its two bytes and SP, a pop reads two bytes and writes SP and the pair. -/
theorem pushAndPop : Obligations.PushAndPop := by
  intro s
  refine ⟨fun p => ⟨_, exec_mkPush_eq s p, rfl, .withCpu _ _, ?pushBytes⟩, fun p w hw => ?pop⟩
  case pushBytes =>
    intro k hhigh hlow
    rw [← tick_cpu 4 s] at hhigh hlow
    exact (afterPush_bytes _ _ k hhigh hlow).trans (by rw [tick_mem])
  case pop =>
    subst hw
    refine ⟨_, exec_mkPop_eq s p, .setStkPair (afterPop s) _ _ p, fun b => ?popBytes, ?bc, ?de, ?hl, ?af⟩
    case popBytes => rw [State.setStkPair_mem, afterPop_mem]
    all_goals
      rintro rfl
      rfl

/-- Settles O24: the pop reads the bytes the push has written, and a pair keeps what is written to it, AF but for the
upper nibble of F. -/
theorem pushThenPop : Obligations.PushThenPop := by
  intro p q s t u hs hn hhigh hlow ht hu
  obtain rfl := Host.Outcome.next.inj ((exec_mkPush_eq s p).symm.trans ht)
  obtain rfl := Host.Outcome.next.inj ((exec_mkPop_eq _ q).symm.trans hu)
  have hm : (tick 4 s).mem.wf = true := by rw [tick_mem]; exact hs.mem
  rw [← tick_bootImage 4 s] at hn
  rw [← tick_cpu 4 s] at hhigh hlow
  rw [popValue_afterPush (s.stkPair p) hm hn hhigh hlow _ (by rw [tick_cpu])]
  refine ⟨?low, ?high, ?sp, fun hq => State.stkPair_setStkPair _ _ hq, ?af⟩
  case low =>
    rw [← tick_cpu 4 s]
    exact afterPush_low _ hm hlow
  case high =>
    rw [← tick_cpu 4 s]
    exact afterPush_high _ hm hhigh
  case sp =>
    rw [State.setStkPair_cpu_sp]
    exact BitVec.sub_add_cancel _ _
  case af =>
    rintro rfl
    exact State.stkPair_setStkPair_af _ _

end Sys2Proof.Settled
end

section
/-! SUPPORT. Proofs for the family 42_alu8.md: the state an accumulator operation ends in and what it keeps, the numbers
behind the sums, differences and DAA, and the write of a place that was read. -/

namespace Sys2Proof.Machine

/-! ### A and the flags written (42_alu8.md R250) -/

/-- What an accumulator operation, DAA or CPL leaves, written: A and the flags, and nothing else. -/
def State.setAlu (s : State) (out : AluOut) : State := (s.setReg .a out.a).setFlags out.f

section

variable {s u : State}

/-- The flags are no 8-bit register. -/
@[simp] theorem State.reg_setFlags (f : Flags) (q : Reg8) : (u.setFlags f).reg q = u.reg q := by cases q <;> rfl

theorem RegsKept.setFlags (h : RegsKept s u) (f : Flags) : RegsKept s (u.setFlags f) := fun q =>
  (State.reg_setFlags f q).trans (h q)

theorem RegWritten.setFlags {r : Reg8} {v : Byte} (h : RegWritten r v s u) (f : Flags) :
    RegWritten r v s (u.setFlags f) := by simpa [RegWritten] using h

theorem SpecialsKept.setFlags (h : SpecialsKept s u) (f : Flags) : SpecialsKept s (u.setFlags f) := h

/-- A state that holds the CPU of `s`, with A and the flags written, keeps all else of `s` in the CPU and all its own
outside it. -/
theorem State.setAlu_frame (h : u.cpu = s.cpu) (out : AluOut) : (∀ q, q ≠ .a → (u.setAlu out).reg q = s.reg q) ∧
    SpecialsKept s (u.setAlu out) ∧ OutsideCpu u (u.setAlu out) :=
  ⟨((RegWritten.setReg h .a out.a).setFlags out.f).2, (SpecialsKept.setReg h .a out.a).setFlags out.f, .withCpu _ u⟩

end

/-! ### The accumulator operations (42_alu8.md R255 to R278) -/

/-- A source as an operand of the model (30_encoding.md R166). -/
def AluSource.operand (o : AluSource) : Operand :=
  match o with
  | .reg r => .reg r
  | .atHl => .indHl
  | .imm n => .imm n

section

variable (o : AluSource) (op : AluOp) (s : State)

theorem AluSource.rd_operand : rd o.operand s = (o.value s, o.after s) := by cases o <;> rfl

@[simp] theorem AluSource.after_cpu : (o.after s).cpu = s.cpu := by
  cases o with
  | atHl => exact afterRead_cpu s.hl s
  | reg r | imm n => rfl

@[simp] theorem AluSource.after_mem : (o.after s).mem = s.mem := by
  cases o with
  | atHl => exact afterRead_mem s.hl s
  | reg r | imm n => rfl

theorem AluSource.exec_instr : exec (o.instr op) s = alu op o.operand s := by
  cases o with
  | reg r => exact exec_mkAluR op r s
  | atHl => exact exec_mkAluM op s
  | imm n => exact exec_mkAluImm op n s

/-- Every accumulator operation reads its source and writes A and the flags. -/
theorem AluSource.exec_instr_eq :
    exec (o.instr op) s = .next ((o.after s).setAlu (aluOut op s.cpu.a (o.value s) s.cpu.f)) := by
  rw [o.exec_instr, alu, o.rd_operand, o.after_cpu, State.setAlu]

/-- What every accumulator operation keeps, whatever it leaves in A and the flags. -/
theorem AluSource.frame (out : AluOut) : (∀ q, q ≠ .a → ((o.after s).setAlu out).reg q = s.reg q) ∧
    SpecialsKept s ((o.after s).setAlu out) ∧ OutsideCpu (o.after s) ((o.after s).setAlu out) ∧
    ∀ b, ((o.after s).setAlu out).mem.read b = s.mem.read b := by
  obtain ⟨hregs, hspecials, houtside⟩ := State.setAlu_frame (o.after_cpu s) out
  exact ⟨hregs, hspecials, houtside, fun b => by rw [houtside.mem, o.after_mem]⟩

end

/-! ### The numbers behind a sum and a difference (42_alu8.md R251, R252) -/

section

variable (a b : Byte) (c : Bool)

theorem add8_res_toNat : (add8 a b c).res.toNat = (a.toNat + b.toNat + c.toNat) % 256 := BitVec.toNat_ofNat _ 8

theorem sub8_res_toNat : ((sub8 a b c).res.toNat : Int) = ((a.toNat : Int) - b.toNat - c.toNat) % 256 := by
  rw [sub8, BitVec.toNat_ofInt]
  exact Int.toNat_of_nonneg (Int.emod_nonneg _ (by decide))

theorem add8_flags : (add8 a b c).flags false =
    { z := decide ((a.toNat + b.toNat + c.toNat) % 256 = 0)
      n := false
      h := decide (a.toNat % 16 + b.toNat % 16 + c.toNat > 15)
      c := decide (a.toNat + b.toNat + c.toNat > 255) } := by
  rw [← add8_res_toNat, Sum8.flags]
  simp only [BitVec.toNat_eq]
  rfl

theorem sub8_flags : (sub8 a b c).flags true =
    { z := decide (((a.toNat : Int) - b.toNat - c.toNat) % 256 = 0)
      n := true
      h := decide (((a.toNat % 16 : Nat) : Int) - (b.toNat % 16 : Nat) - c.toNat < 0)
      c := decide ((a.toNat : Int) - b.toNat - c.toNat < 0) } := by
  rw [← sub8_res_toNat, Sum8.flags]
  simp only [BitVec.toNat_eq, Int.natCast_eq_zero]
  rfl

end

/-! ### A place read and written (42_alu8.md R279 to R282) -/

/-- A place as an operand of the model (30_encoding.md R166). -/
def Place.operand (o : Place) : Operand :=
  match o with
  | .reg r => .reg r
  | .atHl => .indHl

section

variable (o : Place) (s : State)

theorem Place.rd_operand : rd o.operand s = (o.value s, o.after s) := by cases o <;> rfl

/-- A place that was read, written, and the flags behind it. -/
theorem Place.wrote_wr (v : Byte) (f : Flags) : o.Wrote v s ((wr o.operand v (o.after s)).setFlags f) := by
  cases o with
  | reg r => exact ⟨(RegWritten.setReg rfl r v).setFlags f, (SpecialsKept.setReg rfl r v).setFlags f, .withCpu _ s⟩
  | atHl =>
    have hhl : (afterRead s.hl s).hl = s.hl := by simp [State.hl]
    have hcpu : (memWrite s.hl v (tick 4 (afterRead s.hl s))).cpu = s.cpu :=
      (memWrite_tick_cpu _ _ _ _).trans (afterRead_cpu _ _)
    show Place.atHl.Wrote v s ((memWrite (afterRead s.hl s).hl v (tick 4 (afterRead s.hl s))).setFlags f)
    rw [hhl]
    refine ⟨(RegsKept.of_cpu hcpu).setFlags f, (SpecialsKept.of_cpu hcpu).setFlags f, .withCpu _ _, fun b hb => ?_⟩
    exact (memWrite_tick_bytes s.hl v 4 _ b hb).trans (by rw [afterRead_mem])

theorem Place.exec_inc : exec o.inc s =
    .next ((wr o.operand (o.value s + 1#8) (o.after s)).setFlags (incFlags (o.value s) s.cpu.f)) := by
  have h : exec o.inc s = inc8 o.operand s := by
    cases o with
    | reg r => exact exec_mkInc r s
    | atHl => rfl
  rw [h, inc8, o.rd_operand]

theorem Place.exec_dec : exec o.dec s =
    .next ((wr o.operand (o.value s - 1#8) (o.after s)).setFlags (decFlags (o.value s) s.cpu.f)) := by
  have h : exec o.dec s = dec8 o.operand s := by
    cases o with
    | reg r => exact exec_mkDec r s
    | atHl => rfl
  rw [h, dec8, o.rd_operand]

end

section

variable (v : Byte)

theorem incFlags_eq (f : Flags) :
    incFlags v f = { f with z := decide (v.toNat = 255), n := false, h := decide (v.toNat % 16 = 15) } := by
  have hz : v + 1#8 = 0#8 ↔ v.toNat = 255 := by bv_omega
  simp only [incFlags, hz]

theorem decFlags_eq (f : Flags) :
    decFlags v f = { f with z := decide (v.toNat = 1), n := true, h := decide (v.toNat % 16 = 0) } := by
  have hz : v - 1#8 = 0#8 ↔ v.toNat = 1 := by bv_omega
  simp only [decFlags, hz]

end

/-! ### DAA (42_alu8.md R283) -/

section

variable {a : Byte} {f : Flags} {low high : Nat}
  (hlow : low = if f.h = true ∨ (f.n = false ∧ a.toNat % 16 > 9) then 0x06 else 0)
  (hhigh : high = if f.c = true ∨ (f.n = false ∧ a.toNat > 0x99) then 0x60 else 0)

include hlow hhigh

/-- After an addition the value added is the sum of the two corrections, and C says whether the high one is in it. -/
theorem daaAdd_eq (hn : f.n = false) : daaAdd a f = (BitVec.ofNat 8 (low + high), decide (high = 0x60)) := by
  simp only [hn, true_and] at hlow hhigh
  rw [hlow, hhigh]
  simp only [daaAdd, Bool.or_eq_true, decide_eq_true_eq]
  by_cases h : f.c = true ∨ a.toNat > 0x99
  · rw [if_pos h, if_pos h]
    split <;> rfl
  · have hc : f.c = false := Bool.eq_false_iff.mpr fun hc => h (.inl hc)
    rw [if_neg h, if_neg h, hc]
    split <;> rfl

/-- After a subtraction the value subtracted is their sum, and C, which is kept, says whether the high one is in it. -/
theorem daaSub_eq (hn : f.n = true) : daaSub f = BitVec.ofNat 8 (low + high) ∧ f.c = decide (high = 0x60) := by
  simp only [hn, Bool.true_eq_false, false_and, or_false] at hlow hhigh
  rw [hlow, hhigh, daaSub]
  cases f.h <;> cases f.c <;> exact ⟨rfl, rfl⟩

theorem daaOut_a_toNat : (daaOut a f).a.toNat =
    if f.n = true then (a.toNat + 256 - low - high) % 256 else (a.toNat + low + high) % 256 := by
  cases hn : f.n with
  | false =>
    rw [daaOut, hn, daaAdd_eq hlow hhigh hn]
    simp [Nat.add_assoc]
  | true =>
    have hle : low + high ≤ 0x66 := by
      rw [hlow, hhigh]
      split <;> split <;> decide
    rw [daaOut, hn, (daaSub_eq hlow hhigh hn).1]
    have hnat : (BitVec.ofNat 8 (low + high)).toNat = low + high := Nat.mod_eq_of_lt (by omega)
    show (a - BitVec.ofNat 8 (low + high)).toNat = (a.toNat + 256 - low - high) % 256
    rw [BitVec.toNat_sub, hnat]
    congr 1
    omega

theorem daaOut_f : (daaOut a f).f =
    { z := decide ((daaOut a f).a = 0#8), n := f.n, h := false, c := decide (high = 0x60) } := by
  cases hn : f.n with
  | false => simp [daaOut, hn, daaAdd_eq hlow hhigh hn]
  | true => simp [daaOut, hn, (daaSub_eq hlow hhigh hn).2]

end

/-! ### Packed decimal numbers (42_alu8.md R283; 00_scope.md R15) -/

theorem eq_packedDecimal {v : Byte} {n : Nat} (h : v.toNat = n / 10 * 16 + n % 10) : v = packedDecimal n := by
  rw [packedDecimal, ← h, BitVec.ofNat_toNat, BitVec.setWidth_eq]

section

variable {x y low high : Nat} (hx : x < 100) (hy : y < 100)

include hx

theorem packedDecimal_toNat : (packedDecimal x).toNat = x / 10 * 16 + x % 10 :=
  Nat.mod_eq_of_lt (by omega)

include hy

/-- The low correction of a sum is due when the units make a ten: either they add past 15, or the low digit is no
decimal one. -/
theorem sum_low_iff : ((packedDecimal x).toNat % 16 + (packedDecimal y).toNat % 16 + 0 > 15 ∨
    ((packedDecimal x).toNat + (packedDecimal y).toNat + 0) % 256 % 16 > 9) ↔ 10 ≤ x % 10 + y % 10 := by
  rw [packedDecimal_toNat hx, packedDecimal_toNat hy]
  omega

/-- The high correction of a sum is due when the numbers make a hundred. -/
theorem sum_high_iff : ((packedDecimal x).toNat + (packedDecimal y).toNat + 0 > 255 ∨
    ((packedDecimal x).toNat + (packedDecimal y).toNat + 0) % 256 > 0x99) ↔ 100 ≤ x + y := by
  rw [packedDecimal_toNat hx, packedDecimal_toNat hy]
  have hsum : x / 10 * 16 + x % 10 + (y / 10 * 16 + y % 10) > 0x99 ↔ 100 ≤ x + y := by omega
  omega

/-- The sum of two packed numbers, corrected, is the packed sum. -/
theorem packed_sum (hlow : low = if 10 ≤ x % 10 + y % 10 then 0x06 else 0)
    (hhigh : high = if 100 ≤ x + y then 0x60 else 0) :
    (((packedDecimal x).toNat + (packedDecimal y).toNat + 0) % 256 + low + high) % 256 =
      (x + y) % 100 / 10 * 16 + (x + y) % 100 % 10 := by
  rw [packedDecimal_toNat hx, packedDecimal_toNat hy]
  split at hlow <;> split at hhigh <;> omega

/-- The low correction of a difference is due when the units borrow. -/
theorem difference_low_iff :
    (((packedDecimal x).toNat % 16 : Nat) : Int) - ((packedDecimal y).toNat % 16 : Nat) - 0 < 0 ↔
      x % 10 < y % 10 := by
  rw [packedDecimal_toNat hx, packedDecimal_toNat hy]
  omega

/-- The high correction of a difference is due when it is negative. -/
theorem difference_high_iff : ((packedDecimal x).toNat : Int) - (packedDecimal y).toNat - 0 < 0 ↔ x < y := by
  rw [packedDecimal_toNat hx, packedDecimal_toNat hy]
  omega

/-- The difference of two packed numbers, corrected, is the packed difference. -/
theorem packed_difference {d : Nat}
    (hd : (d : Int) = (((packedDecimal x).toNat : Int) - (packedDecimal y).toNat - 0) % 256)
    (hlow : low = if x % 10 < y % 10 then 0x06 else 0) (hhigh : high = if x < y then 0x60 else 0) :
    (d + 256 - low - high) % 256 = (x + 100 - y) % 100 / 10 * 16 + (x + 100 - y) % 100 % 10 := by
  rw [packedDecimal_toNat hx, packedDecimal_toNat hy] at hd
  split at hlow <;> split at hhigh <;> omega

end

end Sys2Proof.Machine

/-! ### The obligations -/

namespace Sys2Proof.Settled

open Machine

/-- Settles O25: both are the adder, `ADD` with no carry-in. -/
theorem addAndAdc : Obligations.AddAndAdc := by
  rintro op o s cin sum hop rfl rfl
  have hframe := o.frame s (aluOut op s.cpu.a (o.value s) s.cpu.f)
  refine ⟨_, o.exec_instr_eq op s, ?a, ?flags, hframe⟩
  case a => rcases hop with rfl | rfl <;> exact add8_res_toNat _ _ _
  case flags => rcases hop with rfl | rfl <;> exact add8_flags _ _ _

/-- Settles O26: all three are the subtracter, of which `CP` keeps the flags alone. -/
theorem subSbcAndCp : Obligations.SubSbcAndCp := by
  rintro op o s bin diff hop rfl rfl
  have hframe := o.frame s (aluOut op s.cpu.a (o.value s) s.cpu.f)
  refine ⟨_, o.exec_instr_eq op s, ?cp, ?a, ?flags, hframe⟩
  case cp =>
    rintro rfl
    rfl
  case a =>
    intro hcp
    rcases hop with rfl | rfl | rfl
    · exact sub8_res_toNat _ _ _
    · exact sub8_res_toNat _ _ _
    · exact absurd rfl hcp
  case flags => rcases hop with rfl | rfl | rfl <;> exact sub8_flags _ _ _

/-- Settles O27: the three operations are those of bit vectors. -/
theorem andXorAndOr : Obligations.AndXorAndOr := by
  intro op o s hop
  have hframe := o.frame s (aluOut op s.cpu.a (o.value s) s.cpu.f)
  refine ⟨_, o.exec_instr_eq op s, fun k _ => ?bits, ?flags, hframe⟩
  case bits =>
    rcases hop with rfl | rfl | rfl
    · exact BitVec.getLsbD_and
    · exact BitVec.getLsbD_xor
    · exact BitVec.getLsbD_or
  case flags => rcases hop with rfl | rfl | rfl <;> rfl

/-- Settles O28: the place is read and written behind its read, and then the flags. -/
theorem incAndDec : Obligations.IncAndDec := by
  rintro o s v rfl
  have hinc : o.value s + 1#8 = BitVec.ofNat 8 ((o.value s).toNat + 1) := by bv_omega
  have hdec : o.value s - 1#8 = BitVec.ofNat 8 ((o.value s).toNat + 255) := by bv_omega
  exact ⟨⟨_, o.exec_inc s, hinc ▸ o.wrote_wr s _ _, incFlags_eq _ _⟩,
    ⟨_, o.exec_dec s, hdec ▸ o.wrote_wr s _ _, decFlags_eq _ _⟩⟩

/-- Settles O29: the corrections of `low` and `high` are those of either branch. -/
theorem decimalAdjust : Obligations.DecimalAdjust := by
  intro s low high hlow hhigh
  have hframe := State.setAlu_frame (rfl : s.cpu = s.cpu) (daaOut s.cpu.a s.cpu.f)
  exact ⟨_, rfl, daaOut_a_toNat hlow hhigh, daaOut_f hlow hhigh, hframe⟩

/-- Settles O30, by what `ADD`, `SUB` and `DAA` leave and when each correction is due. -/
theorem decimalArithmetic : Obligations.DecimalArithmetic := by
  intro x y s t u hx hy ha hb
  refine ⟨fun ht hu => ?add, fun ht hu => ?sub⟩
  case add =>
    obtain ⟨t', ht', hta, htf, -⟩ := addAndAdc .add (.reg .b) s 0 _ (.inl rfl) rfl rfl
    obtain rfl := Host.Outcome.next.inj (ht'.symm.trans ht)
    obtain ⟨u', hu', hua, huf, -⟩ := decimalAdjust t' _ _ rfl rfl
    obtain rfl := Host.Outcome.next.inj (hu'.symm.trans hu)
    simp only [AluSource.value, State.reg, ha, hb] at hta htf
    simp only [htf, hta, decide_eq_true_eq, true_and, sum_low_iff hx hy, sum_high_iff hx hy, Bool.false_eq_true,
      if_false] at hua huf
    refine ⟨eq_packedDecimal (hua.trans (packed_sum hx hy rfl rfl)), ?_⟩
    rw [huf]
    simp
  case sub =>
    obtain ⟨t', ht', -, hta, htf, -⟩ := subSbcAndCp .sub (.reg .b) s 0 _ (.inl rfl) rfl rfl
    obtain rfl := Host.Outcome.next.inj (ht'.symm.trans ht)
    obtain ⟨u', hu', hua, huf, -⟩ := decimalAdjust t' _ _ rfl rfl
    obtain rfl := Host.Outcome.next.inj (hu'.symm.trans hu)
    replace hta := hta (by decide)
    simp only [AluSource.value, State.reg, ha, hb] at hta htf
    simp only [htf, decide_eq_true_eq, Bool.true_eq_false, false_and, or_false, difference_low_iff hx hy,
      difference_high_iff hx hy, if_true] at hua huf
    refine ⟨eq_packedDecimal (hua.trans (packed_difference hx hy hta rfl rfl)), ?_⟩
    rw [huf]
    simp

/-- Settles O31: `CPL` writes A and the flags, `SCF` and `CCF` the flags alone. -/
theorem complementAndCarry : Obligations.ComplementAndCarry := by
  intro s
  obtain ⟨hregs, hspecials, houtside⟩ :=
    State.setAlu_frame (rfl : s.cpu = s.cpu) ⟨s.cpu.a ^^^ 0xFF#8, { s.cpu.f with n := true, h := true }⟩
  refine ⟨⟨_, rfl, ?a, hregs, rfl, hspecials, houtside⟩, rfl, rfl⟩
  case a =>
    show (s.cpu.a ^^^ BitVec.allOnes 8).toNat = _
    rw [BitVec.xor_allOnes, BitVec.toNat_not]

end Sys2Proof.Settled
end

section
/-! SUPPORT. Proofs for the family 43_alu16.md: what a charged cycle keeps of a write of HL or of a pair, and the signed
offset of the SP-relative forms as a number. -/

namespace Sys2Proof.Machine

/-! ### A cycle charged behind a write of the register file (00_scope.md R12; 43_alu16.md R300) -/

/-- Two states with the same register file hold the same pairs. -/
theorem State.pair_congr {s t : State} (h : t.cpu = s.cpu) (p : Pair) : t.pair p = s.pair p := by
  unfold State.pair State.bc State.de State.hl
  rw [h]

section

variable {s t : State} {w : Word} (n : Nat)

@[simp] theorem tick_reg (q : Reg8) : (tick n s).reg q = s.reg q := State.reg_congr (tick_cpu n s) q
@[simp] theorem tick_pair (p : Pair) : (tick n s).pair p = s.pair p := State.pair_congr (tick_cpu n s) p
@[simp] theorem tick_hl : (tick n s).hl = s.hl := tick_pair n .hl

theorem HlWritten.tick (h : HlWritten w s t) : HlWritten w s (tick n t) := by simpa [HlWritten] using h

theorem PairWritten.tick {p : Pair} (h : PairWritten p w s t) : PairWritten p w s (tick n t) := by
  simpa [PairWritten] using h

theorem SpecialsKept.tick (h : SpecialsKept s t) : SpecialsKept s (tick n t) := by simpa [SpecialsKept] using h

/-- States that agree outside the CPU agree there after as many cycles. -/
theorem OutsideCpu.tick (h : OutsideCpu s t) : OutsideCpu (tick n s) (tick n t) := by
  unfold OutsideCpu at *
  rw [tick_cpu, ← tick_withCpu, h]

end

/-- The flags are no part of HL. -/
theorem HlWritten.setFlags {s u : State} {w : Word} (h : HlWritten w s u) (f : Flags) :
    HlWritten w s (u.setFlags f) := by simpa [HlWritten, State.hl] using h

/-! ### The instructions by the state they end in (43_alu16.md R301 to R304; 41_load16_stack.md R234) -/

section

variable {i : Instr} {s : State} {w : Word} {f : Flags} {p : Pair}

/-- HL and the flags written, and an internal cycle (R234, R301). -/
theorem exec_writesHl (h : exec i s = .next (internal ((s.setHl w).setFlags f))) : ∃ t, exec i s = .next t ∧
    HlWritten w s t ∧ t.cpu.f = f ∧ SpecialsKept s t ∧ OutsideCpu (tick 4 s) t :=
  ⟨_, h, ((HlWritten.setHl rfl w).setFlags f).tick 4, by rw [internal_eq, tick_cpu, State.setFlags_cpu_f],
    ((SpecialsKept.setHl rfl w).setFlags f).tick 4, (OutsideCpu.withCpu _ s).tick 4⟩

/-- A pair written, and an internal cycle (R302, R303). -/
theorem exec_writesPair (h : exec i s = .next (internal (s.setPair p w))) : ∃ t, exec i s = .next t ∧
    PairWritten p w s t ∧ t.cpu.f = s.cpu.f ∧ t.cpu.pc = s.cpu.pc ∧ t.cpu.halted = s.cpu.halted ∧
    OutsideCpu (tick 4 s) t := by
  refine ⟨_, h, (PairWritten.setPair s w p).tick 4, ?f, ?pc, ?halted, (OutsideCpu.setPair s w p).tick 4⟩
  all_goals simp [internal_eq]

/-- SP and the flags written, and two internal cycles (R304). -/
theorem exec_writesSp (h : exec i s = .next (internal (internal ((s.setSp w).setFlags f)))) : ∃ t, exec i s = .next t ∧
    t.cpu = { s.cpu with sp := w, f := f } ∧ OutsideCpu (tick 8 s) t := by
  rw [internal_eq, internal_eq, tick_tick] at h
  exact ⟨_, h, tick_cpu 8 _, (OutsideCpu.withCpu _ s).tick 8⟩

end

/-! ### The signed offset as a number (43_alu16.md R305) -/

/-- A word and a sign-extended offset: their sum as integers, modulo 65536. -/
theorem add_sext16_eq_ofInt (w : Word) (e : Byte) : w + sext16 e = BitVec.ofInt 16 (w.toNat + e.toInt) := by
  rw [BitVec.ofInt_add, BitVec.ofInt_natCast, BitVec.ofNat_toNat, BitVec.setWidth_eq]
  rfl

end Sys2Proof.Machine

/-! ### The obligations -/

namespace Sys2Proof.Settled

open Machine

/-- Settles O21: both forms write the sum and the flags of `AddSpRel` and charge their cycles behind the write. -/
theorem spRelative : Obligations.SpRelative := by
  rintro e s sum fl rfl rfl
  rw [← add_sext16_eq_ofInt]
  exact ⟨exec_writesSp rfl, exec_writesHl rfl⟩

/-- Settles O32: HL and the flags are those of the 16-bit sum, and a pair moves up or down by one; the cycle is charged
behind the write. -/
theorem sixteenBitArithmetic : Obligations.SixteenBitArithmetic := by
  intro p s
  have hinc : s.pair p + 1#16 = BitVec.ofNat 16 ((s.pair p).toNat + 1) := by bv_omega
  have hdec : s.pair p - 1#16 = BitVec.ofNat 16 ((s.pair p).toNat + 65535) := by bv_omega
  rw [← hinc, ← hdec]
  exact ⟨exec_writesHl (exec_mkAddHl p s), exec_writesPair (exec_mkIncPair p s), exec_writesPair (exec_mkDecPair p s)⟩

end Sys2Proof.Settled
end

section
/-! SUPPORT. Proofs for the family 44_rotate_acc.md: the bits and the carry of a rotated or shifted byte, for every one of
the eight functions of 46_cb_bitops.md R341, and the state a rotate of A ends in. -/

namespace Sys2Proof.Machine

/-! ### A rotated byte bit by bit (46_cb_bitops.md R341) -/

section

variable (op : RotOp) (v : Byte) (cin : Bool) {k : Nat}

/-- A byte moved up one place: bit 0 is the bit put in. -/
theorem getLsbD_movedUp (b : BitVec 1) (hk : k < 8) :
    (v.extractLsb' 0 7 ++ b : BitVec (7 + 1)).getLsbD k = if k = 0 then b.getLsbD 0 else v.getLsbD (k - 1) := by
  rw [BitVec.getLsbD_append, BitVec.getLsbD_extractLsb']
  by_cases h : k = 0
  · simp [h]
  · simp [h, show k - 1 < 7 by omega]

/-- A byte moved down one place: bit 7 is the bit put in. -/
theorem getLsbD_movedDown (b : BitVec 1) (hk : k < 8) :
    (b ++ v.extractLsb' 1 7 : BitVec (1 + 7)).getLsbD k = if k = 7 then b.getLsbD 0 else v.getLsbD (k + 1) := by
  rw [BitVec.getLsbD_append, BitVec.getLsbD_extractLsb']
  by_cases h : k = 7
  · simp [h]
  · simp [h, show k < 7 by omega, Nat.add_comm]

/-- The nibbles exchanged. -/
theorem getLsbD_swapped (hk : k < 8) :
    (v.extractLsb' 0 4 ++ v.extractLsb' 4 4 : BitVec (4 + 4)).getLsbD k = v.getLsbD ((k + 4) % 8) := by
  rw [BitVec.getLsbD_append, BitVec.getLsbD_extractLsb', BitVec.getLsbD_extractLsb']
  by_cases h : k < 4
  · simp [h, Nat.add_comm 4 k, Nat.mod_eq_of_lt (show k + 4 < 8 by omega)]
  · simp [h, show k - 4 < 4 by omega, show (k + 4) % 8 = k - 4 by omega]

theorem getLsbD_rotated (hk : k < 8) : (rotated op v cin).res.getLsbD k = rotatedBit op v cin k := by
  cases op with
  | rlc =>
    refine (getLsbD_movedUp v _ hk).trans ?_
    by_cases h : k = 0
    · simp [rotatedBit, h]
    · simp [rotatedBit, h, show (k + 7) % 8 = k - 1 by omega]
  | rrc =>
    refine (getLsbD_movedDown v _ hk).trans ?_
    by_cases h : k = 7
    · simp [rotatedBit, h]
    · simp [rotatedBit, h, show (k + 1) % 8 = k + 1 by omega]
  | rl | sla => exact (getLsbD_movedUp v _ hk).trans (by simp [rotatedBit])
  | rr | sra | srl => exact (getLsbD_movedDown v _ hk).trans (by simp [rotatedBit])
  | swap => exact getLsbD_swapped v hk

theorem rotated_c : (rotated op v cin).c = rotatedCarry op v := by cases op <;> rfl

end

/-! ### The state a rotate of A ends in (44_rotate_acc.md R310) -/

theorem rotateA_eq (op : RotOp) (s : State) : rotateA op s =
    .next (s.setAlu ⟨(rotated op s.cpu.a s.cpu.f.c).res, ⟨false, false, false, rotatedCarry op s.cpu.a⟩⟩) := by
  rw [← rotated_c op s.cpu.a s.cpu.f.c]
  rfl

end Sys2Proof.Machine

namespace Sys2Proof.Settled

open Machine

/-- Settles O33: the four instructions are one operation, which writes the rotated byte to A
and clears every flag but C. -/
theorem accumulatorRotates : Obligations.AccumulatorRotates := by
  intro s i op hi
  have hexec : exec i s = rotateA op s := by
    rcases hi with ⟨rfl, rfl⟩ | ⟨rfl, rfl⟩ | ⟨rfl, rfl⟩ | ⟨rfl, rfl⟩ <;> rfl
  exact ⟨_, hexec.trans (rotateA_eq op s), fun k hk => getLsbD_rotated op _ _ hk, rfl, State.setAlu_frame rfl _⟩

end Sys2Proof.Settled
end

section
/-! SUPPORT. Proofs for the family 45_control.md: the state that a taken jump, call or return ends in, and what that state
says of the CPU and of all outside it; and which state a conditional form ends in. -/

namespace Sys2Proof.Machine

/-! ### The conditional forms by the value of the condition (45_control.md R322, R325, R327, R329) -/

section

variable {cc : Cond} {s : State}

section taken

variable (h : s.cpu.f.holds cc = true)

include h

theorem exec_mkJpCc_taken (a : Word) : exec (.mkJpCc cc a) s = .next (jumpTo a s) := by
  rw [exec_mkJpCc, jpCc, if_pos h]

theorem exec_mkJrCc_taken (e : Byte) : exec (.mkJrCc cc e) s = .next (jumpBy e s) := by
  rw [exec_mkJrCc, jrCc, if_pos h]

theorem exec_mkCallCc_taken (a : Word) : exec (.mkCallCc cc a) s = .next (callTo a s) := by
  rw [exec_mkCallCc, callCc, if_pos h]

/-- The cycle of the condition comes before the return. -/
theorem exec_mkRetCc_taken : exec (.mkRetCc cc) s = .next (returnFromCall (tick 4 s)) := by
  rw [← tick_cpu 4 s] at h
  rw [exec_mkRetCc, retCc, internal_eq, if_pos h]

end taken

section notTaken

variable (h : s.cpu.f.holds cc = false)

include h

theorem exec_mkJpCc_notTaken (a : Word) : exec (.mkJpCc cc a) s = .next s := by
  rw [exec_mkJpCc, jpCc, h]
  rfl

theorem exec_mkJrCc_notTaken (e : Byte) : exec (.mkJrCc cc e) s = .next s := by
  rw [exec_mkJrCc, jrCc, h]
  rfl

theorem exec_mkCallCc_notTaken (a : Word) : exec (.mkCallCc cc a) s = .next s := by
  rw [exec_mkCallCc, callCc, h]
  rfl

theorem exec_mkRetCc_notTaken : exec (.mkRetCc cc) s = .next (tick 4 s) := by
  rw [← tick_cpu 4 s] at h
  rw [exec_mkRetCc, retCc, internal_eq, h]
  rfl

end notTaken

end

/-! ### The instructions by the state they end in (45_control.md R321, R324, R326, R328) -/

/-- The target of a restart is eight times its number (R331). -/
theorem rstTarget_eq (y : Fin 8) : rstTarget y = BitVec.ofNat 16 (8 * y.val) := by
  unfold rstTarget zext16
  bv_omega

section

variable {i : Instr} {a : Word} {e : Byte} {s : State}

/-- PC written behind `n` cycles. -/
theorem JumpsTo.of_exec {n : Nat} (h : exec i s = .next { tick n s with cpu := { s.cpu with pc := a } }) :
    JumpsTo i a n s :=
  ⟨_, h, rfl, .withCpu _ _, fun b => by rw [tick_mem]⟩

theorem JumpsTo.of_jumpTo (h : exec i s = .next (jumpTo a s)) : JumpsTo i a 4 s :=
  .of_exec (by rw [h, jumpTo_eq])

/-- The target of a relative jump is the sum of PC and the signed offset, modulo 65536 (30_encoding.md R165). -/
theorem JumpsTo.of_jumpBy (h : exec i s = .next (jumpBy e s)) :
    JumpsTo i (BitVec.ofInt 16 (s.cpu.pc.toNat + e.toInt)) 4 s :=
  .of_exec (by rw [h, jumpBy_eq, add_sext16_eq_ofInt])

theorem CallsTo.of_callTo (h : exec i s = .next (callTo a s)) : CallsTo i a s := by
  rw [callTo_eq] at h
  refine ⟨_, h, rfl, .withCpu _ _, fun b hhigh hlow => ?_⟩
  rw [← tick_cpu 4 s] at hhigh hlow
  exact (afterPush_bytes _ _ b hhigh hlow).trans (by rw [tick_mem])

theorem ReturnsAfter.of_returnFromCall (n : Nat) (h : exec i s = .next (returnFromCall (tick n s))) :
    ReturnsAfter i n s := by
  rw [returnFromCall_eq, tick_cpu] at h
  exact ⟨_, h, rfl, .withCpu _ _, fun b => by rw [tick_mem, afterPop_mem, tick_mem]⟩

end

end Sys2Proof.Machine

/-! ### The obligations -/

namespace Sys2Proof.Settled

open Machine

/-- Settles O36: a form that jumps is `jumpTo`, `jumpBy` or a write of PC, and one not taken is the state itself. -/
theorem jumps : Obligations.Jumps := by
  intro cc a e s
  refine ⟨.of_jumpTo rfl, .of_exec rfl, .of_jumpBy rfl, fun h => .of_jumpTo (exec_mkJpCc_taken h a),
    fun h => .of_jumpBy (exec_mkJrCc_taken h e), fun h => ⟨exec_mkJpCc_notTaken h a, exec_mkJrCc_notTaken h e⟩, ?holds⟩
  case holds => cases cc <;> rfl

/-- Settles O37: a form that calls is `callTo`, and one not taken is the state itself. -/
theorem calls : Obligations.Calls := by
  intro cc a y s
  refine ⟨.of_callTo rfl, .of_callTo ?rst, fun h => .of_callTo (exec_mkCallCc_taken h a),
    fun h => exec_mkCallCc_notTaken h a⟩
  case rst => rw [exec_mkRst, rst, rstTarget_eq]

/-- Settles O38: a form that returns is `returnFromCall`, a conditional one behind the cycle of the condition. -/
theorem returns : Obligations.Returns := fun _ _ =>
  ⟨.of_returnFromCall 0 rfl, fun h => .of_returnFromCall 4 (exec_mkRetCc_taken h), exec_mkRetCc_notTaken,
    _, _, rfl, rfl, rfl⟩

end Sys2Proof.Settled
end

section
/-! SUPPORT. Proofs for the family 46_cb_bitops.md: the state each extended operation of a place ends in, the flags of a
rotate or shift, and the bits of a value with one bit set or cleared. -/

namespace Sys2Proof.Machine

/-! ### One bit set or cleared (46_cb_bitops.md R360, R362) -/

section

variable {w k : Nat} (v : BitVec w) (i : Nat) (hk : k < w)

include hk

/-- The mask that `RES` and `SET` are made with. -/
theorem getLsbD_one_shiftLeft : (1#w <<< i).getLsbD k = decide (k = i) := by
  rw [← BitVec.twoPow_eq, BitVec.getLsbD_twoPow]
  by_cases h : i = k
  · simp [h, hk]
  · simp [h, Ne.symm h]

theorem getLsbD_setBit : (setBit v i).getLsbD k = if k = i then true else v.getLsbD k := by
  rw [setBit, BitVec.getLsbD_or, getLsbD_one_shiftLeft i hk]
  by_cases h : k = i <;> simp [h]

theorem getLsbD_clearBit : (clearBit v i).getLsbD k = if k = i then false else v.getLsbD k := by
  rw [clearBit, BitVec.getLsbD_and, BitVec.getLsbD_not, getLsbD_one_shiftLeft i hk]
  by_cases h : k = i <;> simp [h, hk]

end

/-- The flags of a rotate or shift (46_cb_bitops.md R341). -/
theorem rotated_flags (op : RotOp) (v : Byte) (cin : Bool) :
    (rotated op v cin).flags = ⟨decide ((rotated op v cin).res = 0#8), false, false, rotatedCarry op v⟩ := by
  rw [Rotated.flags, rotated_c]

/-! ### The state an operation of a place ends in (46_cb_bitops.md R342 to R363) -/

section

variable (o : Place) (s : State)

@[simp] theorem Place.after_cpu : (o.after s).cpu = s.cpu := by
  cases o with
  | reg r => rfl
  | atHl => exact afterRead_cpu s.hl s

@[simp] theorem Place.after_mem : (o.after s).mem = s.mem := by
  cases o with
  | reg r => rfl
  | atHl => exact afterRead_mem s.hl s

/-- A place written behind its read: the flags are kept. -/
theorem Place.wr_after_f (v : Byte) : (wr o.operand v (o.after s)).cpu.f = s.cpu.f := by
  cases o with
  | reg r => exact Cpu.setReg_f r v s.cpu
  | atHl => exact congrArg Cpu.f ((memWrite_tick_cpu _ v 4 _).trans (afterRead_cpu s.hl s))

/-- The rotated byte is written back, and then the flags. -/
theorem Place.exec_rot (op : RotOp) : exec (o.rot op) s =
    .next ((wr o.operand (rotated op (o.value s) s.cpu.f.c).res (o.after s)).setFlags
      (rotated op (o.value s) s.cpu.f.c).flags) := by
  have h : exec (o.rot op) s = rotate op o.operand s := by
    cases o with
    | reg r => exact exec_mkRotR op r s
    | atHl => exact exec_mkRotM op s
  rw [h, rotate, o.rd_operand, o.after_cpu]

section

variable (b : Fin 8)

/-- Behind the read nothing is written but the flags. -/
theorem Place.exec_bit : exec (o.bit b) s = .next ((o.after s).setFlags (bitFlags b (o.value s) s.cpu.f)) := by
  have h : exec (o.bit b) s = bitTest b o.operand s := by
    cases o with
    | reg r => exact exec_mkBitR b r s
    | atHl => exact exec_mkBitM b s
  rw [h, bitTest, o.rd_operand, o.after_cpu]

theorem Place.exec_res : exec (o.res b) s = .next (wr o.operand (clearBit (o.value s) b.val) (o.after s)) := by
  have h : exec (o.res b) s = bitReset b o.operand s := by
    cases o with
    | reg r => exact exec_mkResR b r s
    | atHl => exact exec_mkResM b s
  rw [h, bitReset, o.rd_operand]

theorem Place.exec_set : exec (o.set b) s = .next (wr o.operand (setBit (o.value s) b.val) (o.after s)) := by
  have h : exec (o.set b) s = bitSet b o.operand s := by
    cases o with
    | reg r => exact exec_mkSetR b r s
    | atHl => exact exec_mkSetM b s
  rw [h, bitSet, o.rd_operand]

end

/-- A place that was read and written, with no flag written behind it. -/
theorem Place.wrote_wr_keeping_flags (v : Byte) : o.Wrote v s (wr o.operand v (o.after s)) :=
  o.wrote_wr s v (wr o.operand v (o.after s)).cpu.f

end

end Sys2Proof.Machine

/-! ### The obligations -/

namespace Sys2Proof.Settled

open Machine

/-- Settles O34: the eight operations are one, which writes the rotated byte back to its place and clears N and H. -/
theorem extendedRotates : Obligations.ExtendedRotates := fun op o s =>
  ⟨_, _, o.exec_rot s op, fun _ hk => getLsbD_rotated op _ _ hk, o.wrote_wr s _ _, rotated_flags op _ _⟩

/-- Settles O35: `BIT` ends behind the read of its place with the flags written, `RES` and `SET` behind its write. -/
theorem bitInstructions : Obligations.BitInstructions := by
  intro b o s
  refine ⟨⟨_, o.exec_bit s b, ?regs, ?specials, .withCpu _ _, ?mem, rfl⟩,
    ⟨_, _, o.exec_res s b, o.wrote_wr_keeping_flags s _, o.wr_after_f s _, fun _ hk => getLsbD_clearBit _ _ hk⟩,
    ⟨_, _, o.exec_set s b, o.wrote_wr_keeping_flags s _, o.wr_after_f s _, fun _ hk => getLsbD_setBit _ _ hk⟩⟩
  case regs => exact (RegsKept.of_cpu (o.after_cpu s)).setFlags _
  case specials => exact (SpecialsKept.of_cpu (o.after_cpu s)).setFlags _
  case mem => exact fun k => congrArg (·.read k) (o.after_mem s)

end Sys2Proof.Settled
end

section
/-! SUPPORT. Proofs for the family 47_system.md: the decoding of every row's own bytes, the meanings of the unassigned
bytes and of the prefix, and the steps of a halted machine and of a machine that fetches a fatal byte. -/

namespace Sys2Proof

/-! ### The bytes of a row decode to it (30_encoding.md R161 to R180) -/

/-- A row with a word behind its first byte: the decoder pairs the two bytes of the word again (R140). -/
theorem decode_encode_wordRow {row : Word → Instr} {op : Byte} (hlen : fetchedLength op = 3)
    (hencode : ∀ w, encode (row w) = [op, lo w, hi w]) (hdecode : ∀ n m, decodeOp op n m = row (pairOf m n))
    (w : Word) (rest : List Byte) : decode (encode (row w) ++ rest) = .ok (row w, rest) :=
  calc decode (encode (row w) ++ rest)
    _ = decode (op :: lo w :: hi w :: rest) := by rw [hencode]; rfl
    _ = .ok (row (pairOf (hi w) (lo w)), rest) := by rw [decode_three op _ _ rest hlen, hdecode]
    _ = .ok (row w, rest) := by rw [Machine.pairOf_hi_lo]

/-- The bytes of an instruction decode to it, whatever follows them. Only a word is taken apart by the encoding; every
other row keeps its bytes as they stand, so that the decoder finds the row by computation. -/
theorem decode_encode {i : Instr} (h : i.WellFormed) (rest : List Byte) :
    decode (encode i ++ rest) = .ok (i, rest) := by
  cases i with
  | prefixCb op2 => exact absurd h Bool.false_ne_true
  | ldBcD16 w | ldMA16Sp w | ldDeD16 w | ldHlD16 w | ldSpD16 w | jpNzA16 w | jpA16 w | callNzA16 w | jpZA16 w
  | callZA16 w | callA16 w | jpNcA16 w | callNcA16 w | jpCA16 w | callCA16 w | ldMA16A w | ldAMA16 w =>
    exact decode_encode_wordRow rfl (fun _ => rfl) (fun _ _ => rfl) w rest
  | _ => rfl

end Sys2Proof

namespace Sys2Proof.Machine

/-! ### The unassigned bytes and the prefix (47_system.md R386, R387) -/

/-- An unassigned row is one byte, the one it is listed with (30_encoding.md R173). -/
theorem unassignedRows_encode : ∀ row ∈ unassignedRows, row.1.WellFormed ∧ encode row.1 = [row.2] := by
  decide

/-- Each of the eleven rows has the one meaning of an unassigned byte (R387). -/
theorem exec_unassigned (s : State) : ∀ row ∈ unassignedRows, exec row.1 s = unassigned row.2 s :=
  List.forall_iff_forall_mem.mp ⟨rfl, rfl, rfl, rfl, rfl, rfl, rfl, rfl, rfl, rfl, rfl⟩

/-- The row that the decoder finds behind the prefix means what the prefix row does with its byte: both go by the same
fields (R386; 46_cb_bitops.md R340). -/
theorem exec_decodeExtended (op2 : Byte) (s : State) : exec (decodeExtended op2) s = extended op2 s := by
  have hx := fieldX_lt op2
  unfold decodeExtended extended operandOfField
  generalize fieldX op2 = x at hx ⊢
  cases Reg8.ofField (fieldZ op2) with
  | some r =>
    interval_cases x
    · exact exec_mkRotR _ r s
    · exact exec_mkBitR _ r s
    · exact exec_mkResR _ r s
    · exact exec_mkSetR _ r s
  | none =>
    interval_cases x
    · exact exec_mkRotM _ s
    · exact exec_mkBitM _ s
    · exact exec_mkResM _ s
    · exact exec_mkSetM _ s

/-! ### The dispatch of a halted CPU (60_exceptions.md R414) -/

section

variable {s : State}

/-- With nothing to take the dispatch does nothing. -/
theorem dispatch_none (h : s.firstPending = none) : dispatch s = s := by
  rw [dispatch, h]
  exact ite_self s

/-- A halted CPU is not exempt from the dispatch when interrupts are off. -/
theorem dispatch_halted {k : IrqKind} (hh : s.cpu.halted = true) (hk : s.firstPending = some k) :
    dispatch s = if s.irq.ime then enterInterrupt k (acknowledge k s) else acknowledge k s := by
  rw [dispatch, hh, hk, Bool.not_true, Bool.and_false]
  rfl

/-- Every bit of the requested and enabled vectors is some kind's (R410). -/
theorem exists_irqBit {j : Nat} (hj : j < 5) : ∃ k, cfg.irqBit k = j := by
  interval_cases j
  exacts [⟨.vblank, rfl⟩, ⟨.lcdStatus, rfl⟩, ⟨.timer, rfl⟩, ⟨.serial, rfl⟩, ⟨.joypad, rfl⟩]

/-- Something requested and enabled is found, whatever kind it is of. -/
theorem exists_firstPending (h : s.irq.requested &&& s.irq.enabled ≠ 0#5) : ∃ k, s.firstPending = some k := by
  rw [← Option.ne_none_iff_exists']
  intro hnone
  rw [State.firstPending, List.find?_eq_none] at hnone
  refine h (BitVec.eq_of_getLsbD_eq fun j hj => ?_)
  obtain ⟨k, rfl⟩ := exists_irqBit hj
  rw [← pending_eq, BitVec.getLsbD_zero]
  exact eq_false_of_ne_true (hnone k (by cases k <;> decide))

/-- With the global enable or without it, servicing a kind wakes the CPU. -/
theorem dispatch_wakes (hh : s.cpu.halted = true) (h : s.irq.requested &&& s.irq.enabled ≠ 0#5) :
    (dispatch s).cpu.halted = false := by
  obtain ⟨k, hk⟩ := exists_firstPending h
  rw [dispatch_halted hh hk]
  split
  · rw [enterInterrupt_eq]
    rfl
  · rfl

end

/-! ### The steps (60_exceptions.md R440) -/

section

variable {s : State} (hn : s.bootImage.length ≤ 256) (hi : s.inputs = []) (hs : s.stopped = none)

include hn hi hs

/-- A halted machine with nothing to take spends 4 cycles and fetches nothing (R435). -/
theorem step_halted (hh : s.cpu.halted = true) (hnone : s.firstPending = none) :
    step s = .next (ppuStep (s.timer.cycles + 4) (tick 4 s)) := by
  have hcpu : cpuStep s = .next (tick 4 s) := if_pos hh
  rcases step_cases s hn with ⟨h, -⟩ | ⟨-, t, ht, hstep⟩
  · exact absurd hs (betweenSteps_nil s hi ▸ h)
  · rw [betweenSteps_nil s hi, dispatch_none hnone, hcpu] at ht
    cases ht
    rw [hstep, finishStep, tick_stopped, hs, tick_timer_cycles]
    rfl

/-- The byte at PC, in the core's memory, is a whole instruction: a running machine with interrupts off runs it, PC
behind it and 4 cycles charged, whatever the bytes that follow are (47_system.md R383; 20_memory.md R152). -/
theorem step_runs_byte {i : Instr} (hh : s.cpu.halted = false) (hime : s.irq.ime = false)
    (hbuf : bufferAddress s.cpu.pc.toNat = true) (hw : i.WellFormed)
    (hbyte : encode i = [s.mem.read s.cpu.pc.toNat]) :
    step s = stepEnds (exec i { tick 4 s with cpu := { s.cpu with pc := s.cpu.pc + 1#16 } }) := by
  have hdecode : decode [s.mem.read s.cpu.pc.toNat] = .ok (i, []) := by
    rw [← hbyte, ← List.append_nil (encode i)]
    exact decode_encode hw []
  have hlen : fetchedLength (s.mem.read s.cpu.pc.toNat) = 1 := by
    rw [← (decode_take hdecode).1, hbyte]
    rfl
  have hat := atFetch_running hi hh hime
  have hfetch : fetchInstr (atFetch s) =
      ([s.mem.read s.cpu.pc.toNat], { tick 4 s with cpu := { s.cpu with pc := s.cpu.pc + 1#16 } }) := by
    rw [hat, fetchInstr_eq_fetchBytes, readValue_buffer _ s hn hbuf, hlen, fetchBytes_one, readValue_buffer _ s hn hbuf,
      afterRead_buffer _ s hn hbuf]
  rw [step_runs_decoded hn (by rwa [betweenSteps_nil s hi]) (by rwa [hat]) (by rwa [hfetch]), hfetch]

end

end Sys2Proof.Machine

/-! ### The obligations -/

namespace Sys2Proof.Settled

open Machine

/-- Settles O2: the bytes of every row decode to it. -/
theorem decodeOfEncode : Obligations.DecodeOfEncode := fun _ rest h => decode_encode h rest

/-- Settles O7: with nothing to take the step is the halted tick and `PpuStep`, which keeps the CPU; anything requested
and enabled is found by the dispatch, which wakes the CPU. -/
theorem haltedStep : Obligations.HaltedStep := by
  refine fun s hn hi hs hh =>
    ⟨fun h => ⟨_, step_halted hn hi hs hh (firstPending_none s h), rfl, ?cpu⟩, dispatch_wakes hh⟩
  case cpu => exact (Paced.ppuStep _ _).cpu.trans (tick_cpu 4 s)

/-- Settles O9: either byte is a whole instruction, whose meaning records the reason, and a step that ends so ends
without the picture generator. The address recorded is that of the byte, PC being behind it. -/
theorem fatalByteEndsTheStep : Obligations.FatalByteEndsTheStep := by
  rintro s op hn hi hs hh hime hbuf rfl
  refine ⟨fun hstop => ?stop, fun ⟨i, hrow⟩ => ?unassigned⟩
  case stop =>
    rw [step_runs_byte hn hi hs hh hime hbuf (i := .stop) rfl (by rw [hstop]; rfl)]
    rfl
  case unassigned =>
    obtain ⟨hw, hbyte⟩ := unassignedRows_encode _ hrow
    have hpc : s.cpu.pc + 1#16 - 1#16 = s.cpu.pc := BitVec.add_sub_cancel _ _
    rw [step_runs_byte hn hi hs hh hime hbuf hw hbyte, exec_unassigned _ _ hrow, unassigned, hpc]
    rfl

/-- Settles O40: both are the extended instruction of the byte, and every instruction completes. -/
theorem prefixRunsExtended : Obligations.PrefixRunsExtended := by
  intro op2 s
  obtain ⟨t, ht, -⟩ := exec_quietly (decodeExtended op2) s
  exact ⟨t, (exec_decodeExtended op2 s).symm.trans ht, ht⟩

/-- Settles O39: the meanings are the definitions', that of the eleven unassigned bytes said once for them all. -/
theorem systemInstructions : Obligations.SystemInstructions := fun s =>
  ⟨rfl, rfl, rfl, rfl, rfl, exec_unassigned s⟩

end Sys2Proof.Settled
end

section
/-! SUPPORT. Proofs for the family 60_exceptions.md: the terminal state, the dispatch in its two branches, and the
instruction placed for the host, read back byte by byte by the next fetch. -/

namespace Sys2Proof.Machine

/-! ### The terminal state (60_exceptions.md R401) -/

/-- A step of a stopped machine with no act of the outside to come changes nothing. -/
theorem step_stopped {s : State} (hn : s.bootImage.length ≤ 256) (hi : s.inputs = []) (hs : s.stopped ≠ none) :
    step s = .next s := by
  rcases step_cases s hn with ⟨-, e⟩ | ⟨h, -⟩
  · rwa [betweenSteps_nil s hi] at e
  · exact absurd h (by rwa [betweenSteps_nil s hi])

/-! ### The dispatch (60_exceptions.md R414 to R417) -/

/-- The vectors stand eight bytes apart, in the order of the interrupt bits (R415). -/
theorem irqVector_eq (k : IrqKind) : cfg.irqVector k = BitVec.ofNat 16 (0x40 + 8 * cfg.irqBit k) := by
  cases k <;> rfl

/-- With interrupts off and the CPU running nothing is looked for. -/
theorem dispatch_off {s : State} (hime : s.irq.ime = false) (hh : s.cpu.halted = false) : dispatch s = s := by
  rw [dispatch, hime, hh]
  rfl

/-- With interrupts on the kind found is entered, whether or not the CPU is halted. -/
theorem dispatch_on {s : State} {k : IrqKind} (hime : s.irq.ime = true) (hk : s.firstPending = some k) :
    dispatch s = enterInterrupt k (acknowledge k s) := by
  rw [dispatch, hime, hk]
  rfl

/-- The entry pushes PC and changes no other byte. -/
theorem enterInterrupt_bytes (k : IrqKind) (s : State) :
    BytesKeptBut2 (s.cpu.sp - 1#16) (s.cpu.sp - 2#16) s (enterInterrupt k s) := by
  intro b hhigh hlow
  rw [← tick_cpu 8 s] at hhigh hlow
  rw [enterInterrupt_eq, tick_mem, afterPush_bytes _ _ b hhigh hlow, tick_mem]

/-! ### The host's interface (60_exceptions.md R440; 20_memory.md R134, R152) -/

/-- The bytes an instruction is fetched as, from what the three reads at PC and behind it give. -/
theorem fetchInstr_bytes {s : State} {b0 b1 b2 : Byte} (h0 : readValue s.cpu.pc s = b0)
    (h1 : readValue (s.cpu.pc + 1#16) (afterRead s.cpu.pc s) = b1)
    (h2 : readValue (s.cpu.pc + 2#16) (afterRead (s.cpu.pc + 1#16) (afterRead s.cpu.pc s)) = b2) :
    (fetchInstr s).1 = [b0, b1, b2].take (fetchedLength b0) := by
  rw [fetchInstr_eq_fetchBytes, h0]
  rcases fetchedLength_range b0 with e | e | e <;> rw [e]
  · rw [fetchBytes_one, h0]
    rfl
  · rw [fetchBytes_two, h0, h1]
    rfl
  · rw [fetchBytes_three, h0, h1, h2]
    rfl

/-- A byte placed below the bytes that are placed is left alone. -/
theorem placeBytes_below (bs : List Byte) (a k : Nat) (m : Memory) (h : k < a) :
    (placeBytes bs a m).read k = m.read k := by
  induction bs generalizing a m with
  | nil => rfl
  | cons b t ih => rw [placeBytes, ih (a + 1) _ (by omega)]; exact Sparse.get_set_other m a k b (by omega)

/-- In a canonical memory the bytes placed are read where they were placed. -/
theorem placeBytes_read {bs : List Byte} {a j : Nat} {m : Memory} (hm : m.wf = true) {b : Byte}
    (h : bs[j]? = some b) : (placeBytes bs a m).read (a + j) = b := by
  induction bs generalizing a j m with
  | nil => simp at h
  | cons x t ih =>
    match j with
    | 0 =>
      obtain rfl : x = b := by simpa using h
      exact (placeBytes_below t (a + 1) a _ (Nat.lt_succ_self a)).trans (Sparse.get_set_same m a x hm)
    | j + 1 =>
      rw [placeBytes, show a + (j + 1) = a + 1 + j by omega]
      exact ih (Memory.wf_write m a x hm) (by simpa using h)

/-- Three bytes placed are read in their order. -/
theorem placeBytes_three {b0 b1 b2 : Byte} (a : Nat) {m : Memory} (hm : m.wf = true) :
    (placeBytes [b0, b1, b2] a m).read a = b0 ∧ (placeBytes [b0, b1, b2] a m).read (a + 1) = b1 ∧
      (placeBytes [b0, b1, b2] a m).read (a + 2) = b2 :=
  ⟨placeBytes_read (j := 0) hm rfl, placeBytes_read (j := 1) hm rfl, placeBytes_read (j := 2) hm rfl⟩

section

variable {s : State}

/-- A ROM-only cartridge is read where no overlay hides it, and forgets the read (20_memory.md R134). -/
theorem readValue_rom {rom : Memory} {a : Word} (hn : s.bootImage.length ≤ 256) (he : s.ext = .romOnly rom)
    (ha : a.toNat < 0x8000) (hb : s.bootActive = false ∨ s.bootImage.length ≤ a.toNat) :
    readValue a s = rom.read a.toNat := by
  rw [readValue, memPeek_rom _ a (by rwa [tick_bootImage]) ha (by rwa [tick_bootActive, tick_bootImage]), tick_ext, he]
  exact congrArg (Option.getD · 0xFF#8) (if_pos ha)

theorem afterRead_ext_romOnly {rom : Memory} (a : Word) (he : s.ext = .romOnly rom) :
    (afterRead a s).ext = .romOnly rom := by
  unfold afterRead
  rcases memReadEffect_cases a (tick 4 s) with e | ⟨-, e⟩ <;> rw [e]
  · rwa [tick_ext]
  · show (tick 4 s).ext.note _ = _
    rw [tick_ext, he]
    rfl

theorem bufferAddress_of_inBuffer {a : Word} (h : inBuffer a s = true) :
    ∀ j, j < 3 → bufferAddress (a.toNat + j) = true := by
  simp only [inBuffer, Bool.and_eq_true, decide_eq_true_eq] at h
  obtain ⟨⟨⟨hlt, h0⟩, h1⟩, h2⟩ := h
  have ha1 : (a + 1#16).toNat = a.toNat + 1 := by bv_omega
  have ha2 : (a + 2#16).toNat = a.toNat + 2 := by bv_omega
  intro j hj
  interval_cases j
  · exact (writeOwner_buffer _ a).mp h0
  · exact ha1 ▸ (writeOwner_buffer _ _).mp h1
  · exact ha2 ▸ (writeOwner_buffer _ _).mp h2

/-- All that placing bytes for the host can change: PC, the core's memory, the collaborators and the overlay. -/
theorem placeAtFetch_shape (bs : List Byte) (s : State) : ∃ w m x b, placeAtFetch bs s =
    { s with cpu := { s.cpu with pc := w }, mem := m, ext := x, bootActive := b } := by
  unfold placeAtFetch
  split
  · exact ⟨s.cpu.pc, s.mem, _, _, rfl⟩
  · split
    · exact ⟨s.cpu.pc, _, s.ext, s.bootActive, rfl⟩
    · exact ⟨0xC000#16, _, s.ext, s.bootActive, rfl⟩

section

variable {b0 b1 b2 : Byte} (hn : s.bootImage.length ≤ 256)

include hn

/-- The fetch from a ROM-only cartridge, with three bytes of its window at PC. -/
theorem fetchInstr_rom {rom : Memory} (he : s.ext = .romOnly rom) (hpc : s.cpu.pc.toNat + 2 < 0x8000)
    (hb : s.bootActive = false ∨ s.bootImage.length ≤ s.cpu.pc.toNat) (h0 : rom.read s.cpu.pc.toNat = b0)
    (h1 : rom.read (s.cpu.pc.toNat + 1) = b1) (h2 : rom.read (s.cpu.pc.toNat + 2) = b2) :
    (fetchInstr s).1 = [b0, b1, b2].take (fetchedLength b0) := by
  have hpc1 : (s.cpu.pc + 1#16).toNat = s.cpu.pc.toNat + 1 := by bv_omega
  have hpc2 : (s.cpu.pc + 2#16).toNat = s.cpu.pc.toNat + 2 := by bv_omega
  have hread : ∀ {u : State} {a : Word}, u.bootImage = s.bootImage → u.bootActive = s.bootActive →
      u.ext = .romOnly rom → s.cpu.pc.toNat ≤ a.toNat → a.toNat < 0x8000 → readValue a u = rom.read a.toNat :=
    fun himage hactive hext hle hlt =>
      readValue_rom (himage ▸ hn) hext hlt (himage ▸ hactive ▸ hb.imp_right (Nat.le_trans · hle))
  have hext := afterRead_ext_romOnly s.cpu.pc he
  refine fetchInstr_bytes ?_ ?_ ?_
  · rw [hread rfl rfl he (Nat.le_refl _) (by omega), h0]
  · rw [hread (by simp) (by simp) hext (by omega) (by omega), hpc1, h1]
  · rw [hread (by simp) (by simp) (afterRead_ext_romOnly _ hext) (by omega) (by omega), hpc2, h2]

/-- The fetch from the core's memory, with three bytes of a buffer at PC (R152). -/
theorem fetchInstr_buffer (hbuf : ∀ j, j < 3 → bufferAddress (s.cpu.pc.toNat + j) = true)
    (h0 : s.mem.read s.cpu.pc.toNat = b0) (h1 : s.mem.read (s.cpu.pc.toNat + 1) = b1)
    (h2 : s.mem.read (s.cpu.pc.toNat + 2) = b2) : (fetchInstr s).1 = [b0, b1, b2].take (fetchedLength b0) := by
  have hpc1 : (s.cpu.pc + 1#16).toNat = s.cpu.pc.toNat + 1 := by
    have := bufferAddress_lt (hbuf 0 (by decide))
    bv_omega
  have hpc2 : (s.cpu.pc + 2#16).toNat = s.cpu.pc.toNat + 2 := by
    have := bufferAddress_lt (hbuf 1 (by decide))
    bv_omega
  refine fetchInstr_bytes ?_ ?_ ?_
  · rw [readValue_buffer _ s hn (hbuf 0 (by decide)), h0]
  · rw [readValue_buffer _ _ (by simpa using hn) (hpc1 ▸ hbuf 1 (by decide)), afterRead_mem, hpc1, h1]
  · rw [readValue_buffer _ _ (by simpa using hn) (hpc2 ▸ hbuf 2 (by decide)), afterRead_mem, afterRead_mem, hpc2, h2]

/-- Wherever three bytes are placed for the host, the next fetch takes as many of them as the first has. -/
theorem fetchInstr_placeAtFetch (hm : s.mem.wf = true) (hr : s.ext.rom.wf = true) :
    (fetchInstr (placeAtFetch [b0, b1, b2] s)).1 = [b0, b1, b2].take (fetchedLength b0) := by
  unfold placeAtFetch
  split
  · next hpc =>
    obtain ⟨h0, h1, h2⟩ := placeBytes_three (b0 := b0) (b1 := b1) (b2 := b2) s.cpu.pc.toNat hr
    refine fetchInstr_rom hn rfl hpc ?overlay h0 h1 h2
    case overlay =>
      show (s.bootActive && decide (s.bootImage.length ≤ s.cpu.pc.toNat)) = false ∨ s.bootImage.length ≤ s.cpu.pc.toNat
      rw [Bool.and_eq_false_iff, decide_eq_false_iff_not]
      omega
  · split
    · next hbuf =>
      obtain ⟨h0, h1, h2⟩ := placeBytes_three (b0 := b0) (b1 := b1) (b2 := b2) s.cpu.pc.toNat hm
      exact fetchInstr_buffer hn (bufferAddress_of_inBuffer hbuf) h0 h1 h2
    · obtain ⟨h0, h1, h2⟩ := placeBytes_three (b0 := b0) (b1 := b1) (b2 := b2) 0xC000 hm
      exact fetchInstr_buffer hn (show ∀ j, j < 3 → bufferAddress (0xC000 + j) = true by decide) h0 h1 h2

end

/-- The machine made ready fetches where it stands: nothing is redirected. -/
theorem atFetch_ready {u : State} (hcpu : u.cpu.halted = false) (hin : u.inputs = [])
    (hirq : u.irq = (readyToFetch s).irq) : atFetch u = u := by
  rw [atFetch, betweenSteps_nil u hin]
  cases hfound : u.firstPending with
  | none => exact dispatch_none hfound
  | some k =>
    refine dispatch_off ?_ hcpu
    have hpending : u.pending = s.pending := funext fun k => by rw [State.pending, hirq]; rfl
    have hready : s.firstPending = some k := by rw [← hfound, State.firstPending, State.firstPending, hpending]
    rw [hirq, readyToFetch, hready]
    exact Bool.and_false _

end

end Sys2Proof.Machine

/-! ### The obligations -/

namespace Sys2Proof.Settled

open Machine

/-- Settles O8: each of the steps leads back to the state. -/
theorem stoppedIsTerminal : Obligations.StoppedIsTerminal := by
  intro k s hn hi hs
  induction k with
  | zero => rfl
  | succ k ih =>
    have hstep : core.step s = .next s := step_stopped hn hi hs
    simp only [Host.Core.run, hstep]
    exact ih

/-- Settles O4, which is the lemma on the step of a decoded instruction. -/
theorem stepRunsDecoded : Obligations.StepRunsDecoded := fun _ _ _ => step_runs_decoded

/-- Settles O14: the machine made ready fetches the bytes placed, as many as the first of them has, and these decode as the
whole word does. -/
theorem withFetchWordRuns : Obligations.WithFetchWordRuns := by
  intro s nbits w i hs hn hword
  obtain ⟨rest, hdecode⟩ : ∃ rest, decode (tableBytes nbits w) = .ok (i, rest) := by
    unfold decodeTableWord at hword
    split at hword <;> cases hword
    exact ⟨_, ‹_›⟩
  have hfetch : (fetchInstr (s.withFetchWord nbits w)).1 =
      (tableBytes nbits w).take (fetchedLength (BitVec.ofNat 8 (w % 2 ^ nbits))) :=
    fetchInstr_placeAtFetch (s := readyToFetch s) hn hs.mem hs.rom
  obtain ⟨c, m, x, b, hplaced⟩ := placeAtFetch_shape (tableBytes nbits w) (readyToFetch s)
  rw [← State.withFetchWord] at hplaced
  have hinputs : (s.withFetchWord nbits w).inputs = [] := by rw [hplaced]; rfl
  have hstopped : (s.withFetchWord nbits w).stopped = none := by rw [hplaced]; rfl
  have hhalted : (s.withFetchWord nbits w).cpu.halted = false := by rw [hplaced]; rfl
  have himage : (s.withFetchWord nbits w).bootImage.length ≤ 256 := by rw [hplaced]; exact hn
  have hat : atFetch (s.withFetchWord nbits w) = s.withFetchWord nbits w :=
    atFetch_ready (s := s) hhalted hinputs (by rw [hplaced])
  have hi : decode (fetchInstr (atFetch (s.withFetchWord nbits w))).1 = .ok (i, []) := by
    rw [hat, hfetch]
    exact (decode_take hdecode).2
  exact ⟨[], hi, step_runs_decoded himage (by rwa [betweenSteps_nil _ hinputs]) (by rwa [hat]) hi⟩

/-- Settles O42: the kind of lowest bit is the one found; it is acknowledged, and entered if interrupts are on. -/
theorem dispatchCases : Obligations.DispatchCases := by
  refine fun s => ⟨dispatch_off, fun h => dispatch_none (firstPending_none s h), ?_⟩
  rintro k ack hk hleast rfl
  have hfound := firstPending_some s k hk hleast
  refine ⟨fun hime hh => ?_, fun hime => ?_⟩
  · rw [dispatch_halted hh hfound, hime]
    rfl
  · rw [dispatch_on hime hfound]
    refine ⟨?_, ?_, enterInterrupt_bytes k (acknowledge k s)⟩ <;> rw [enterInterrupt_eq]
    · rw [irqVector_eq]
      rfl
    · exact .withCpu _ _

end Sys2Proof.Settled
end

section
/-! SUPPORT. Proofs for the family 61_devices.md: the timer, the position in the frame, the entries of the modes, the DMA
engine, `PpuStep` from end to end, the order of the sprites and the pixels of a line. -/

namespace Sys2Proof.Machine

/-! ### The timer (61_devices.md R463, R464) -/

/-- The timer's request is bit 2 of the requested vector (60_exceptions.md R410). -/
theorem setBit_timer (q : BitVec 5) : setBit q (cfg.irqBit .timer) = q ||| 0b00100#5 := rfl

/-- The periods of the clock-select (10_state.md R56). -/
theorem timerPeriod_eq (s : State) : timerPeriod s =
    (if s.timer.tac.toNat % 4 = 0 then 1024 else if s.timer.tac.toNat % 4 = 1 then 16
      else if s.timer.tac.toNat % 4 = 2 then 64 else 256) := by
  have hall : ∀ c : BitVec 3, cfg.timerPeriod (c.extractLsb' 0 2) =
      (if c.toNat % 4 = 0 then 1024 else if c.toNat % 4 = 1 then 16 else if c.toNat % 4 = 2 then 64 else 256) := by
    decide
  exact hall s.timer.tac

/-- A cycle more is a cycle at the end. -/
theorem tick_succ (n : Nat) (s : State) : tick (n + 1) s = tickOne (tick n s) := (tick_tick n 1 s).symm

section

variable {s : State}

/-- A cycle at which the counter does not step: the timer is off, or the count is no multiple of the period. -/
theorem tickOne_idle (h : s.timer.tac.getLsbD 2 = false ∨ (s.timer.cycles + 1) % timerPeriod s ≠ 0) :
    tickOne s = { s with timer := { s.timer with cycles := s.timer.cycles + 1 } } := by
  refine if_neg fun hc => ?_
  rw [Bool.and_eq_true, beq_iff_eq] at hc
  rcases h with h | h
  · exact absurd (h.symm.trans hc.1) Bool.false_ne_true
  · exact h hc.2

/-- A cycle at which it does. -/
theorem tickOne_steps (ht : s.timer.tac.getLsbD 2 = true) (hp : (s.timer.cycles + 1) % timerPeriod s = 0) :
    tickOne s = timaStep { s with timer := { s.timer with cycles := s.timer.cycles + 1 } } :=
  if_pos (Bool.and_eq_true_iff.mpr ⟨ht, beq_iff_eq.mpr hp⟩)

/-- A disabled timer counts cycles and nothing else. -/
theorem tick_disabled (h : s.timer.tac.getLsbD 2 = false) (n : Nat) :
    tick n s = { s with timer := { s.timer with cycles := s.timer.cycles + n } } := by
  induction n with
  | zero => rfl
  | succ n ih =>
    rw [tick_succ, ih]
    exact tickOne_idle (.inl h)

/-- The multiples of a period passed by one cycle more. -/
theorem passed_succ (c n p : Nat) : (c + (n + 1)) / p - c / p =
    (c + n) / p - c / p + if (c + n + 1) % p = 0 then 1 else 0 := by
  have hle : c / p ≤ (c + n) / p := Nat.div_le_div_right (Nat.le_add_right c n)
  rw [← Nat.add_assoc, Nat.succ_div]
  simp only [Nat.dvd_iff_mod_eq_zero]
  omega

/-- An enabled timer short of overflow counts the multiples of its period that are passed. -/
theorem tick_enabled (ht : s.timer.tac.getLsbD 2 = true) (n : Nat)
    (h : s.timer.tima.toNat + ((s.timer.cycles + n) / timerPeriod s - s.timer.cycles / timerPeriod s) ≤ 255) :
    tick n s = { s with
      timer := { s.timer with
        cycles := s.timer.cycles + n
        tima := s.timer.tima +
          BitVec.ofNat 8 ((s.timer.cycles + n) / timerPeriod s - s.timer.cycles / timerPeriod s) } } := by
  induction n with
  | zero => simp
  | succ n ih =>
    have hpassed := passed_succ s.timer.cycles n (timerPeriod s)
    rw [tick_succ, ih (by omega)]
    generalize (s.timer.cycles + n) / timerPeriod s - s.timer.cycles / timerPeriod s = m at hpassed h
    rw [hpassed] at h ⊢
    by_cases hp : (s.timer.cycles + n + 1) % timerPeriod s = 0
    · rw [if_pos hp] at h ⊢
      have hshort : s.timer.tima + BitVec.ofNat 8 m ≠ 0xFF#8 := by bv_omega
      rw [BitVec.ofNat_add, ← BitVec.add_assoc]
      exact Eq.trans (tickOne_steps ht hp) (if_neg hshort)
    · rw [if_neg hp]
      exact tickOne_idle (.inr hp)

end

/-! ### The position in the frame (61_devices.md R481) -/

/-- The position of a place in the frame, in cycles. -/
def Beam.position (b : Beam) : Nat := b.ly.toNat * 456 + b.off

theorem framePosition_eq (s : State) : framePosition s = s.beam.position := rfl

/-- A change of mode leaves the position, a change of line trades a line's cycles for the line, and the end of line 153
takes the whole frame off. -/
theorem Beam.Begun.position_next {b c : Beam} (h : b.Begun) (hn : b.next = some c) :
    c.position % 70224 = b.position % 70224 := by
  obtain ⟨ly, m, off⟩ := b
  have hl : ly.toNat < 154 := h.line
  have hinc : (ly + 1#8).toNat = ly.toNat + 1 := by bv_omega
  have hline : 456 ≤ off → (ly + 1#8).toNat * 456 + (off - 456) = ly.toNat * 456 + off := by omega
  unfold Beam.next at hn
  cases m with
  | search | transfer =>
    dsimp only at hn
    split at hn <;> cases hn
    rfl
  | hblank =>
    dsimp only at hn
    split at hn <;> cases hn
    next ho => exact congrArg (· % 70224) (hline ho)
  | vblank =>
    dsimp only at hn
    split at hn <;> cases hn
    next ho =>
      split
      · next hlast =>
        have hly : ly.toNat = 153 := by omega
        have hoff : 0 + (off - 456) + 70224 = 153 * 456 + off := by omega
        simp only [Beam.position, hly, ← hoff, Nat.add_mod_right]
        rfl
      · exact congrArg (· % 70224) (hline ho)

/-- The loop of `PpuStep` leaves the position, whole frames apart. -/
theorem transitions_position (n : Nat) {s : State} (h : s.beam.Begun) :
    (transitions n s).beam.position % 70224 = s.beam.position % 70224 := by
  refine (transitions_keep (P := fun t => t.beam.Begun ∧ t.beam.position % 70224 = s.beam.position % 70224)
    (fun t u ht hu => ?_) n s ⟨h, rfl⟩).2
  have hnext := transition_beam hu
  exact ⟨ht.1.next hnext, (ht.1.position_next hnext).trans ht.2⟩

/-- A legal place lies within the frame. -/
theorem State.PhaseOk.framePosition_lt {s : State} (h : s.PhaseOk) : framePosition s < 70224 := by
  have hl := h.line
  have ho := h.offset
  unfold framePosition
  omega

/-! ### The entries of the modes (61_devices.md R483 to R485) -/

section

variable {s t : State}

/-! A search reads the sprite table, the line and the sprite height, and nothing else (R490). -/

theorem spriteCovers_congr (hm : t.mem = s.mem) (hl : t.ppu.ly = s.ppu.ly) (hc : t.ppu.lcdc = s.ppu.lcdc) :
    spriteCovers t = spriteCovers s := by
  unfold spriteCovers spriteHeight State.oam
  rw [hm, hl, hc]

theorem spriteBefore_congr (hm : t.mem = s.mem) : spriteBefore t = spriteBefore s := by
  unfold spriteBefore State.oam
  rw [hm]

theorem insertSprite_congr (h : spriteBefore t = spriteBefore s) (i : Nat) (l : List Nat) :
    insertSprite t i l = insertSprite s i l := by
  induction l with
  | nil => rfl
  | cons j l ih => rw [insertSprite, insertSprite, ih, h]

theorem sortSprites_congr (h : spriteBefore t = spriteBefore s) (l : List Nat) : sortSprites t l = sortSprites s l := by
  induction l with
  | nil => rfl
  | cons i l ih => rw [sortSprites, sortSprites, ih, insertSprite_congr h]

theorem spriteSearch_congr (hm : t.mem = s.mem) (hl : t.ppu.ly = s.ppu.ly) (hc : t.ppu.lcdc = s.ppu.lcdc) :
    (spriteSearch t).ppu.visible = (spriteSearch s).ppu.visible := by
  show sortSprites t (selectedSprites t) = sortSprites s (selectedSprites s)
  rw [sortSprites_congr (spriteBefore_congr hm), selectedSprites, selectedSprites, spriteCovers_congr hm hl hc]

end

section

variable (s : State) (m : Mode)

/-- A state with another mode of the picture generator. -/
def State.withMode : State := { s with ppu := { s.ppu with mode := m } }

/-! A line is drawn alike in every mode (R492). -/

theorem firstSpritePixel_withMode (x : Nat) (bg : BitVec 2) (l : List Nat) :
    firstSpritePixel (s.withMode m) x bg l = firstSpritePixel s x bg l := by
  induction l with
  | nil => rfl
  | cons i l ih =>
    rw [firstSpritePixel, firstSpritePixel, ih]
    rfl

theorem pixelShade_withMode (x : Nat) : pixelShade (s.withMode m) x = pixelShade s x := by
  have hsprite : ∀ bg, spritePixel (s.withMode m) x bg = spritePixel s x bg := fun bg =>
    congrArg (fun p => if !s.ppu.lcdc.getLsbD 1 then none else p) (firstSpritePixel_withMode s m x bg s.ppu.visible)
  dsimp only [pixelShade]
  rw [hsprite]
  rfl

theorem drawColumns_withMode (n : Nat) (fb : Frame) : drawColumns (s.withMode m) n fb = drawColumns s n fb := by
  induction n with
  | zero => rfl
  | succ n ih =>
    rw [drawColumns, drawColumns, ih, pixelShade_withMode]
    rfl

/-- All that a line drawn changes is the drawn frame, and that on a visible line only (R492). -/
theorem renderLine_eq : renderLine s = { s with
    ppu := { s.ppu with
      fbDraw := if s.ppu.ly.toNat < 144 then drawColumns s 160 s.ppu.fbDraw else s.ppu.fbDraw } } := by
  by_cases h : s.ppu.ly.toNat < 144
  · rw [if_pos h]
    exact if_pos h
  · rw [if_neg h]
    exact if_neg h

theorem renderLine_withMode : renderLine (s.withMode m) = (renderLine s).withMode m := by
  rw [renderLine_eq, renderLine_eq, drawColumns_withMode]
  rfl

end

section

variable (s : State)

/-- The entry into HBlank draws the line and leaves it drawn. -/
theorem enterHblank_ppu_eq : (enterHblank s).ppu = { (renderLine s).ppu with mode := .hblank } := by
  show (requestLcdIf 0 (renderLine (s.withMode .hblank))).ppu = _
  rw [requestLcdIf_ppu, renderLine_withMode]
  rfl

theorem enterHblank_requested : (enterHblank s).irq.requested =
    s.irq.requested ||| (if s.ppu.statEn.getLsbD 0 then 0b00010#5 else 0#5) := by
  show (requestLcdIf 0 (renderLine (s.withMode .hblank))).irq.requested = _
  rw [requestLcdIf_requested, renderLine_eq]
  rfl

theorem enterVblank_requested : (enterVblank s).irq.requested =
    s.irq.requested ||| 0b00001#5 ||| (if s.ppu.statEn.getLsbD 1 then 0b00010#5 else 0#5) := by
  rw [enterVblank, requestLcdIf_requested]
  rfl

theorem enterSearch_requested : (enterSearch s).irq.requested =
    s.irq.requested ||| (if s.ppu.statEn.getLsbD 2 then 0b00010#5 else 0#5) := by
  rw [enterSearch, requestLcdIf_requested]
  rfl

theorem enterHblank_mem : (enterHblank s).mem = s.mem := by
  show (requestLcdIf 0 (renderLine (s.withMode .hblank))).mem = _
  rw [requestLcdIf_mem, renderLine_eq]
  rfl

theorem enterVblank_mem : (enterVblank s).mem = s.mem := by
  rw [enterVblank, requestLcdIf_mem]
  rfl

theorem enterVblank_dma : (enterVblank s).dma = s.dma := by
  rw [enterVblank, requestLcdIf_dma]
  rfl

theorem enterSearch_mem : (enterSearch s).mem = s.mem := by
  rw [enterSearch, requestLcdIf_mem]
  rfl

/-- The entry into SpriteSearch leaves the line, the offset in it and both frames. -/
theorem enterSearch_keeps : (enterSearch s).ppu.mode = .search ∧ (enterSearch s).ppu.ly = s.ppu.ly ∧
    (enterSearch s).ppu.lineCycle = s.ppu.lineCycle ∧ (enterSearch s).ppu.fbDraw = s.ppu.fbDraw ∧
    (enterSearch s).ppu.fbReady = s.ppu.fbReady ∧ (enterSearch s).ppu.frameReady = s.ppu.frameReady := by
  rw [enterSearch_ppu]
  exact ⟨rfl, rfl, rfl, rfl, rfl, rfl⟩

/-- The sprites selected are those of the line the mode is entered in. -/
theorem enterSearch_visible {t : State} (hm : s.mem = t.mem) (hl : s.ppu.ly = t.ppu.ly)
    (hc : s.ppu.lcdc = t.ppu.lcdc) : (enterSearch s).ppu.visible = (spriteSearch t).ppu.visible := by
  rw [enterSearch_ppu]
  exact spriteSearch_congr hm hl hc

end

section

variable {s : State}

/-! Which entry a transition is, by the mode and the line (R480, R483). -/

theorem transition_search (hm : s.ppu.mode = .search) (hc : 80 ≤ s.ppu.lineCycle) :
    transition s = some (enterTransfer s) := by
  rw [transition, hm]
  exact if_pos hc

theorem transition_transfer (hm : s.ppu.mode = .transfer) (hc : 252 ≤ s.ppu.lineCycle) :
    transition s = some (enterHblank s) := by
  rw [transition, hm]
  exact if_pos hc

theorem transition_hblank (hm : s.ppu.mode = .hblank) (hc : 456 ≤ s.ppu.lineCycle) : transition s =
    some (if (s.ppu.ly + 1#8).toNat = 144 then enterVblank (nextLine s) else enterSearch (nextLine s)) := by
  rw [transition, hm]
  exact if_pos hc

theorem transition_vblank (hm : s.ppu.mode = .vblank) (hc : 456 ≤ s.ppu.lineCycle) : transition s =
    some (if (s.ppu.ly + 1#8).toNat = 154 then
      enterSearch { nextLine s with ppu := { (nextLine s).ppu with ly := 0#8 } } else nextLine s) := by
  rw [transition, hm]
  exact if_pos hc

end

/-! ### One byte of a transfer (61_devices.md R502) -/

/-- A state with another DMA engine. -/
def State.withDma (s : State) (d : Dma) : State := { s with dma := d }

/-- A read looks at the register of the DMA engine and not at how far it is. -/
theorem memPeek_withDma (a : Word) (s : State) {d : Dma} (h : d.reg = s.dma.reg) :
    memPeek a (s.withDma d) = memPeek a s := by
  refine memPeek_congr rfl rfl (fun _ => rfl) (fun _ => rfl) fun r _ => ?_
  cases r with
  | dma => exact h
  | _ => rfl

theorem memReadEffect_withDma (a : Word) (s : State) (d : Dma) :
    memReadEffect a (s.withDma d) = (memReadEffect a s).withDma d := by
  have ho : (s.withDma d).readOwner a = s.readOwner a := rfl
  unfold memReadEffect
  rw [ho]
  cases s.readOwner a with
  | none => rfl
  | some x => cases x <;> rfl

/-- The place in the page of the byte that is due. -/
def Dma.at (d : Dma) : Word := d.src + BitVec.ofNat 16 d.index

/-- The registers after one byte: the 160th ends the transfer. -/
def Dma.afterByte (d : Dma) : Dma :=
  if d.index + 1 = 160 then { d with active := false, index := d.index + 1, budget := 0 }
  else { d with index := d.index + 1, budget := d.budget - 4 }

theorem setOam_withDma (i : Nat) (v : Byte) (s : State) (d : Dma) :
    (s.withDma d).setOam i v = (s.setOam i v).withDma d := by
  unfold State.setOam
  split <;> rfl

/-- One byte: the byte the bus answers, or open bus, is stored at the index, and the collaborators have seen the read. -/
theorem dmaCopyByte_eq (s : State) : dmaCopyByte s =
    ((memReadEffect s.dma.at s).setOam s.dma.index ((memPeek s.dma.at s).getD 0xFF#8)).withDma s.dma.afterByte := by
  have hpeek : memPeek s.dma.at (s.withDma { s.dma with budget := s.dma.budget - cfg.dmaByteCycles }) =
      memPeek s.dma.at s := memPeek_withDma _ _ rfl
  have heffect := memReadEffect_withDma s.dma.at s { s.dma with budget := s.dma.budget - cfg.dmaByteCycles }
  have hstore := setOam_withDma s.dma.index ((memPeek s.dma.at s).getD cfg.openBus) (memReadEffect s.dma.at s)
    { s.dma with budget := s.dma.budget - cfg.dmaByteCycles }
  dsimp only [State.withDma, Dma.at] at hpeek heffect hstore
  unfold dmaCopyByte memRead Dma.afterByte
  dsimp only [State.withDma, Dma.at]
  rw [hpeek, heffect, hstore]
  by_cases hlast : s.dma.index + 1 = 160
  · rw [if_pos hlast]
    exact if_pos hlast
  · rw [if_neg hlast]
    exact if_neg hlast

/-- Another budget for the engine is another for what comes after the byte. -/
theorem dmaCopyByte_withDma (s : State) {d : Dma} (hat : d.at = s.dma.at) (hi : d.index = s.dma.index)
    (hr : d.reg = s.dma.reg) : dmaCopyByte (s.withDma d) = (dmaCopyByte s).withDma d.afterByte := by
  rw [dmaCopyByte_eq, dmaCopyByte_eq s]
  show ((memReadEffect d.at (s.withDma d)).setOam d.index _).withDma d.afterByte = _
  rw [show (s.withDma d).dma.at = s.dma.at from hat, hat, hi, memPeek_withDma _ _ hr, memReadEffect_withDma,
    setOam_withDma]
  rfl

/-! ### The bytes that are due (61_devices.md R502) -/

/-- A byte of a transfer is due: its 4 cycles are saved up. -/
def State.ByteDue (s : State) : Prop := s.dma.active = true ∧ 4 ≤ s.dma.budget

/-- Cycles given to a transfer under way. -/
def State.addBudget (n : Nat) (s : State) : State :=
  if s.dma.active then s.withDma { s.dma with budget := s.dma.budget + n } else s

/-- All bytes that are due are copied. -/
def copyDue (s : State) : State := dmaLoop (s.dma.budget / 4) s

section

variable {s : State}

theorem dmaLoop_rest (n : Nat) (h : ¬ s.ByteDue) : dmaLoop n s = s := by
  cases n with
  | zero => rfl
  | succ n => exact if_neg fun hc => h (by simpa [State.ByteDue, cfg] using hc)

theorem dmaLoop_due (n : Nat) (h : s.ByteDue) : dmaLoop (n + 1) s = dmaLoop n (dmaCopyByte s) :=
  if_pos (by simpa [State.ByteDue, cfg] using h)

theorem copyDue_rest (h : ¬ s.ByteDue) : copyDue s = s := dmaLoop_rest _ h

/-- A byte spends its 4 cycles, or ends the transfer and all that is saved up. -/
theorem copyDue_due (h : s.ByteDue) : copyDue s = copyDue (dmaCopyByte s) := by
  have hdma : (dmaCopyByte s).dma = s.dma.afterByte := dmaCopyByte_dma s
  obtain ⟨n, hn⟩ : ∃ n, s.dma.budget / 4 = n + 1 := ⟨s.dma.budget / 4 - 1, by have := h.2; omega⟩
  rw [copyDue, hn, dmaLoop_due n h, copyDue, hdma, Dma.afterByte]
  split
  · next hlast =>
    have hrest : ¬ (dmaCopyByte s).ByteDue := by
      rw [State.ByteDue, hdma, Dma.afterByte, if_pos hlast]
      exact fun hc => Bool.false_ne_true hc.1
    rw [dmaLoop_rest _ hrest, dmaLoop_rest _ hrest]
  · rw [show (s.dma.budget - 4) / 4 = n by omega]

/-- What holds with no byte due, and holds with one due if it holds after that byte, holds of every state: a byte spends
its cycles. -/
theorem byteDue_induction {P : State → Prop} (rest : ∀ s : State, ¬ s.ByteDue → P s)
    (due : ∀ s : State, s.ByteDue → P (dmaCopyByte s) → P s) (s : State) : P s := by
  induction hb : s.dma.budget using Nat.strong_induction_on generalizing s with
  | _ b ih =>
    by_cases h : s.ByteDue
    · refine due s h (ih _ ?_ _ rfl)
      have hbudget := h.2
      rw [dmaCopyByte_dma]
      split <;> dsimp only <;> omega
    · exact rest s h

/-- After the bytes that were due none is. -/
theorem copyDue_settled (s : State) : ¬ (copyDue s).ByteDue := by
  refine byteDue_induction (P := fun s => ¬ (copyDue s).ByteDue) (fun s h => ?_) (fun s h ih => ?_) s
  · rwa [copyDue_rest h]
  · rwa [copyDue_due h]

theorem dmaAdvance_eq (n : Nat) (s : State) : dmaAdvance n s = copyDue (s.addBudget n) := by
  unfold dmaAdvance State.addBudget
  split
  · rfl
  · next h => exact (copyDue_rest fun hc => h hc.1).symm

theorem addBudget_add (m n : Nat) (s : State) : s.addBudget (m + n) = (s.addBudget m).addBudget n := by
  by_cases h : s.dma.active = true
  · simp [State.addBudget, State.withDma, h, Nat.add_assoc]
  · simp [State.addBudget, h]

theorem ByteDue.addBudget (h : s.ByteDue) (n : Nat) : (s.addBudget n).ByteDue := by
  rw [State.addBudget, if_pos h.1]
  exact ⟨h.1, Nat.le_add_right_of_le h.2⟩

/-- Cycles given before a byte that is due are cycles given after it. -/
theorem dmaCopyByte_addBudget (h : s.ByteDue) (n : Nat) :
    dmaCopyByte (s.addBudget n) = (dmaCopyByte s).addBudget n := by
  have hdma : (dmaCopyByte s).dma = s.dma.afterByte := dmaCopyByte_dma s
  rw [State.addBudget, if_pos h.1, dmaCopyByte_withDma s (d := { s.dma with budget := s.dma.budget + n }) rfl rfl rfl]
  by_cases hlast : s.dma.index + 1 = 160
  · rw [Dma.afterByte, if_pos hlast] at hdma ⊢
    rw [State.addBudget, hdma, if_neg Bool.false_ne_true, ← hdma]
    rfl
  · rw [Dma.afterByte, if_neg hlast] at hdma ⊢
    rw [State.addBudget, hdma, if_pos h.1, Nat.sub_add_comm h.2]

/-- Cycles given before the bytes that are due are cycles given after them. -/
theorem copyDue_addBudget (n : Nat) (s : State) : copyDue (s.addBudget n) = copyDue ((copyDue s).addBudget n) := by
  refine byteDue_induction (P := fun s => copyDue (s.addBudget n) = copyDue ((copyDue s).addBudget n))
    (fun s h => ?_) (fun s h ih => ?_) s
  · rw [copyDue_rest h]
  · rw [copyDue_due h, ← ih, ← dmaCopyByte_addBudget h, copyDue_due (ByteDue.addBudget h n)]

/-- Cycles may be given in one call or in two. -/
theorem dmaAdvance_add (m n : Nat) (s : State) : dmaAdvance (m + n) s = dmaAdvance n (dmaAdvance m s) := by
  rw [dmaAdvance_eq, dmaAdvance_eq m, dmaAdvance_eq n, addBudget_add, copyDue_addBudget n (s.addBudget m)]

end

/-! ### The bytes of a page (61_devices.md R500 to R502) -/

/-- The engine is within the page it copies: a transfer under way has bytes left. -/
structure Dma.InPage (d : Dma) : Prop where
  left : d.active = true → d.index < 160
  index : d.index ≤ 160
  source : d.src = pairOf d.reg 0#8

/-- The registers after a byte of a transfer under way. -/
theorem Dma.afterByte_eq {d : Dma} (ha : d.active = true) (hl : d.index < 160) : d.afterByte =
    { d with
      index := d.index + 1
      active := decide (d.index + 1 < 160)
      budget := if d.index + 1 < 160 then d.budget - 4 else 0 } := by
  by_cases hlast : d.index + 1 = 160
  · have hend : ¬ d.index + 1 < 160 := by omega
    rw [Dma.afterByte, if_pos hlast, if_neg hend, decide_eq_false hend]
  · have hmore : d.index + 1 < 160 := by omega
    rw [Dma.afterByte, if_neg hlast, if_pos hmore, decide_eq_true hmore, ← ha]

theorem Dma.afterByte_index (d : Dma) : d.afterByte.index = d.index + 1 := by
  unfold Dma.afterByte
  split <;> rfl

theorem Dma.afterByte_src (d : Dma) : d.afterByte.src = d.src := by
  unfold Dma.afterByte
  split <;> rfl

theorem Dma.afterByte_reg (d : Dma) : d.afterByte.reg = d.reg := by
  unfold Dma.afterByte
  split <;> rfl

theorem Dma.InPage.afterByte {d : Dma} (h : d.InPage) (ha : d.active = true) : d.afterByte.InPage := by
  have hl := h.left ha
  refine ⟨fun hr => ?_, by rw [d.afterByte_index]; omega, by rw [d.afterByte_src, d.afterByte_reg, h.source]⟩
  by_cases hlast : d.index + 1 = 160
  · rw [Dma.afterByte, if_pos hlast] at hr
    cases hr
  · rw [d.afterByte_index]
    omega

/-- A read that leaves the collaborators as they were: of a byte of the core's, or of a ROM-only cartridge's. -/
def State.ReadsQuietly (s : State) (a : Word) : Prop := s.readOwner a ≠ some .ext ∨ ∃ rom, s.ext = .romOnly rom

section

variable {s : State}

theorem memReadEffect_quietly {a : Word} (h : s.ReadsQuietly a) : memReadEffect a s = s := by
  rcases h with h | ⟨rom, h⟩
  · exact memReadEffect_core s a h
  · rcases memReadEffect_cases a s with e | ⟨-, e⟩
    · exact e
    · rw [e, h]
      exact congrArg (fun x => { s with ext := x }) h.symm

/-- One byte read quietly: the byte stored and the engine moved are all that changes. -/
theorem dmaCopyByte_quietly (hi : s.dma.index < 160) (h : s.ReadsQuietly s.dma.at) : dmaCopyByte s =
    { s with
      mem := s.mem.write (0xFE00 + s.dma.index) ((memPeek s.dma.at s).getD 0xFF#8)
      dma := s.dma.afterByte } := by
  rw [dmaCopyByte_eq, memReadEffect_quietly h]
  exact congrArg (fun t : State => t.withDma s.dma.afterByte) (if_pos hi)

/-- The bytes of a page lie at its start and behind it. -/
theorem page_toNat (r : Byte) {i : Nat} (hi : i < 160) : (pairOf r 0#8 + BitVec.ofNat 16 i).toNat = r.toNat * 256 + i := by
  have h : pairOf r 0#8 = BitVec.ofNat 16 (r.toNat * 256) := dmaStart_src r
  rw [h]
  bv_omega

/-- A byte copied is no source of another: only in the sprite table itself do the two ranges meet, byte on byte. -/
theorem memPeek_dmaCopyByte (hp : s.dma.InPage) (hl : s.dma.index < 160) (h : s.ReadsQuietly s.dma.at) {i : Nat}
    (hi : i < 160) (hne : i ≠ s.dma.index) :
    memPeek (s.dma.src + BitVec.ofNat 16 i) (dmaCopyByte s) = memPeek (s.dma.src + BitVec.ofNat 16 i) s := by
  rw [dmaCopyByte_quietly hl h]
  refine memPeek_congr rfl rfl (fun _ => rfl) (fun _ => ?_) fun r _ => ?_
  · refine Sparse.get_set_other _ _ _ _ ?_
    rw [hp.source, page_toNat _ hi]
    omega
  · cases r with
    | dma => exact s.dma.afterByte_reg
    | _ => rfl

end

/-- The index moves forward, and stays within the page. -/
theorem copyDue_index (s : State) :
    s.dma.InPage → s.dma.index ≤ (copyDue s).dma.index ∧ (copyDue s).dma.index ≤ 160 := by
  refine byteDue_induction
    (P := fun s => s.dma.InPage → s.dma.index ≤ (copyDue s).dma.index ∧ (copyDue s).dma.index ≤ 160)
    (fun s h hp => ?_) (fun s h ih hp => ?_) s
  · rw [copyDue_rest h]
    exact ⟨Nat.le_refl _, hp.index⟩
  · have hdma : (dmaCopyByte s).dma = s.dma.afterByte := dmaCopyByte_dma s
    rw [hdma, Dma.afterByte_index] at ih
    rw [copyDue_due h]
    exact (ih (hp.afterByte h.1)).imp_left Nat.le_of_succ_le

/-- From a transfer under way the index moves by one for each 4 cycles up to 160, where the transfer ends. -/
theorem copyDue_count (s : State) : s.dma.active = true → s.dma.index < 160 →
    (copyDue s).dma.index = min 160 (s.dma.index + s.dma.budget / 4) ∧
    ((copyDue s).dma.active = false ↔ 160 ≤ s.dma.index + s.dma.budget / 4) := by
  refine byteDue_induction (P := fun s => s.dma.active = true → s.dma.index < 160 →
    (copyDue s).dma.index = min 160 (s.dma.index + s.dma.budget / 4) ∧
    ((copyDue s).dma.active = false ↔ 160 ≤ s.dma.index + s.dma.budget / 4))
    (fun s h ha hl => ?_) (fun s h ih ha hl => ?_) s
  · have hb : s.dma.budget / 4 = 0 := Nat.div_eq_of_lt (Nat.not_le.mp fun hb => h ⟨ha, hb⟩)
    rw [copyDue_rest h, ha, hb]
    simp
    omega
  · have hb := h.2
    have hdma : (dmaCopyByte s).dma = s.dma.afterByte := dmaCopyByte_dma s
    rw [copyDue_due h]
    by_cases hlast : s.dma.index + 1 = 160
    · rw [Dma.afterByte, if_pos hlast] at hdma
      rw [copyDue_rest fun hc => Bool.false_ne_true ((congrArg Dma.active hdma).symm.trans hc.1), hdma]
      simp
      omega
    · rw [Dma.afterByte, if_neg hlast] at hdma
      rw [hdma] at ih
      have ih := ih ha (by dsimp only; omega)
      dsimp only at ih
      rwa [show s.dma.index + 1 + (s.dma.budget - 4) / 4 = s.dma.index + s.dma.budget / 4 by omega] at ih

/-- From `s` to `t` the bytes from the one index to the other were copied as the bus of `s` answers them at their place
in the page, and no other byte of the core's memory has changed. -/
structure PageCopied (s t : State) : Prop where
  copied : ∀ i, s.dma.index ≤ i → i < t.dma.index →
    t.mem.read (0xFE00 + i) = (memPeek (s.dma.src + BitVec.ofNat 16 i) s).getD 0xFF#8
  kept : ∀ k, k < 0xFE00 + s.dma.index ∨ 0xFE00 + t.dma.index ≤ k → t.mem.read k = s.mem.read k

/-- The bytes that are due are copied, if their reads leave the collaborators as they were. -/
theorem copyDue_pageCopied (s : State) : s.mem.wf = true → s.dma.InPage →
    (∀ i, s.dma.index ≤ i → i < (copyDue s).dma.index → s.ReadsQuietly (s.dma.src + BitVec.ofNat 16 i)) →
    PageCopied s (copyDue s) := by
  refine byteDue_induction (P := fun s => s.mem.wf = true → s.dma.InPage →
    (∀ i, s.dma.index ≤ i → i < (copyDue s).dma.index → s.ReadsQuietly (s.dma.src + BitVec.ofNat 16 i)) →
    PageCopied s (copyDue s)) (fun s h hm hp hq => ?_) (fun s h ih hm hp hq => ?_) s
  · rw [copyDue_rest h]
    exact ⟨fun i hle hlt => absurd hlt (Nat.not_lt.mpr hle), fun _ _ => rfl⟩
  · have hdma : (dmaCopyByte s).dma = s.dma.afterByte := dmaCopyByte_dma s
    have hindex : (dmaCopyByte s).dma.index = s.dma.index + 1 := by rw [hdma, Dma.afterByte_index]
    have hsrc : (dmaCopyByte s).dma.src = s.dma.src := by rw [hdma, Dma.afterByte_src]
    have hl := hp.left h.1
    have hp' : (dmaCopyByte s).dma.InPage := hdma ▸ hp.afterByte h.1
    obtain ⟨hmono, hend⟩ := copyDue_index (dmaCopyByte s) hp'
    rw [copyDue_due h] at hq ⊢
    have hquiet : s.ReadsQuietly s.dma.at := hq _ (Nat.le_refl _) (by omega)
    have hbyte := dmaCopyByte_quietly hl hquiet
    have hmem : (dmaCopyByte s).mem = s.mem.write (0xFE00 + s.dma.index) ((memPeek s.dma.at s).getD 0xFF#8) := by
      rw [hbyte]
    obtain ⟨hcopied, hkept⟩ := ih ((Paced.dmaCopyByte s).canonical hm) hp' fun i hle hlt => by
      rw [hsrc, hbyte]
      exact hq i (by omega) hlt
    refine ⟨fun i hle hlt => ?_, fun k hk => ?_⟩
    · by_cases hi : i = s.dma.index
      · rw [hi, hkept _ (.inl (by omega)), hmem]
        exact Sparse.get_set_same _ _ _ hm
      · rw [hcopied i (by omega) hlt, hsrc, memPeek_dmaCopyByte hp hl hquiet (by omega) hi]
    · rw [hkept k (by omega), hmem]
      exact Sparse.get_set_other _ _ _ _ (by omega)

/-! ### An advance of the engine (61_devices.md R502) -/

section

variable {s : State} (delta : Nat)

/-- An advance of a transfer: the cycles added to the budget, and the bytes that are then due. -/
theorem dmaAdvance_active (ha : s.dma.active = true) :
    dmaAdvance delta s = copyDue (s.withDma { s.dma with budget := s.dma.budget + delta }) := by
  rw [dmaAdvance_eq, State.addBudget, if_pos ha]

theorem dmaAdvance_inactive (ha : s.dma.active = false) : dmaAdvance delta s = s :=
  if_neg (by rw [ha]; exact Bool.false_ne_true)

theorem dmaAdvance_count (ha : s.dma.active = true) (hl : s.dma.index < 160) :
    (dmaAdvance delta s).dma.index = min 160 (s.dma.index + (s.dma.budget + delta) / 4) ∧
    ((dmaAdvance delta s).dma.active = false ↔ 160 ≤ s.dma.index + (s.dma.budget + delta) / 4) := by
  rw [dmaAdvance_active delta ha]
  exact copyDue_count (s.withDma { s.dma with budget := s.dma.budget + delta }) ha hl

theorem dmaAdvance_pageCopied (ha : s.dma.active = true) (hm : s.mem.wf = true) (hp : s.dma.InPage)
    (hq : ∀ i, s.dma.index ≤ i → i < (dmaAdvance delta s).dma.index → s.ReadsQuietly (s.dma.src + BitVec.ofNat 16 i)) :
    PageCopied s (dmaAdvance delta s) := by
  rw [dmaAdvance_active delta ha] at hq ⊢
  obtain ⟨hcopied, hkept⟩ := copyDue_pageCopied (s.withDma { s.dma with budget := s.dma.budget + delta }) hm
    ⟨hp.left, hp.index, hp.source⟩ hq
  refine ⟨fun i hle hlt => (hcopied i hle hlt).trans ?_, hkept⟩
  exact congrArg (Option.getD · 0xFF#8) (memPeek_withDma (s.dma.src + BitVec.ofNat 16 i) s rfl)

/-- Too few cycles for a byte are saved up. -/
theorem dmaAdvance_short (ha : s.dma.active = true) (h : s.dma.budget + delta < 4) :
    dmaAdvance delta s = s.withDma { s.dma with budget := s.dma.budget + delta } := by
  rw [dmaAdvance_active delta ha]
  exact copyDue_rest fun hc => Nat.not_lt.mpr hc.2 h

/-- Cycles for one byte copy it. -/
theorem dmaAdvance_byte (ha : s.dma.active = true) (h4 : 4 ≤ s.dma.budget + delta) (h8 : s.dma.budget + delta < 8) :
    dmaAdvance delta s =
      (dmaCopyByte s).withDma (Dma.afterByte { s.dma with budget := s.dma.budget + delta }) := by
  have hdue : (s.withDma { s.dma with budget := s.dma.budget + delta }).ByteDue := ⟨ha, h4⟩
  rw [dmaAdvance_active delta ha, copyDue_due hdue,
    dmaCopyByte_withDma s (d := { s.dma with budget := s.dma.budget + delta }) rfl rfl rfl]
  refine copyDue_rest fun hc => ?_
  by_cases hlast : s.dma.index + 1 = 160
  · rw [Dma.afterByte, if_pos hlast] at hc
    exact Bool.false_ne_true hc.1
  · rw [Dma.afterByte, if_neg hlast] at hc
    have hbudget : 4 ≤ s.dma.budget + delta - 4 := hc.2
    omega

end

/-! ### The engine inside `PpuStep` (61_devices.md R480) -/

/-- All that `PpuStep` changes behind the DMA: the picture generator and requests. -/
theorem ppuStep_shape (total : Nat) (s : State) : ∃ p q, ppuStep total s =
    { dmaAdvance (total - s.ppu.seen) s with ppu := p, irq := q } := by
  rw [ppuStep_eq]
  have hloop := transitions_keep
    (P := fun u => ∃ p q, u = { dmaAdvance (total - s.ppu.seen) s with ppu := p, irq := q })
    (fun u t ⟨p, q, hu⟩ ht => by
      obtain ⟨p', q', rfl, -⟩ := transition_shape u t ht
      exact ⟨p', _, by rw [hu]⟩)
    (transitionBound (afterElapsed total s)) (afterElapsed total s) ⟨_, _, rfl⟩
  obtain ⟨p, q, hu⟩ := hloop
  rw [hu]
  unfold lineCompare requestLcdIf
  dsimp only
  split
  · split <;> exact ⟨_, _, rfl⟩
  · exact ⟨_, _, rfl⟩

/-! ### `PpuStep` from end to end (61_devices.md R480, R487) -/

/-- The line compare is the match flag and the request of enable bit 6. -/
theorem lineCompare_eq (t : State) : lineCompare t = lineCompared t := by
  unfold lineCompare lineCompared requestLcdIf
  by_cases hl : t.ppu.ly = t.ppu.lyc
  · by_cases he : t.ppu.statEn.getLsbD 3 = true
    · simp only [hl, he, decide_true, if_true, and_self]
      rfl
    · simp only [hl, he, decide_true, if_true, and_false, if_false, Bool.false_eq_true, BitVec.or_zero]
  · simp only [hl, decide_false, false_and, if_false, Bool.false_eq_true, BitVec.or_zero]

/-- While the line is LYC and enable bit 6 is set, lcd-status is requested. -/
theorem lineCompared_requests {t : State} (hl : t.ppu.ly = t.ppu.lyc) (he : t.ppu.statEn.getLsbD 3 = true) :
    (lineCompared t).irq.requested.getLsbD 1 = true := by
  unfold lineCompared
  dsimp only
  rw [if_pos ⟨hl, he⟩, BitVec.getLsbD_or]
  exact Bool.or_true _

section

variable {s t : State} (total : Nat)

/-- The state machine with no transition due stands still. -/
theorem ppuStep_still (h : transition (afterElapsed total s) = none) :
    ppuStep total s = lineCompared (afterElapsed total s) := by
  have hstill : ∀ n, transitions n (afterElapsed total s) = afterElapsed total s := by
    intro n
    cases n with
    | zero => rfl
    | succ n => rw [transitions, h]
  rw [ppuStep_eq, hstill, lineCompare_eq]

theorem dmaAdvance_settled (delta : Nat) (s : State) : ¬ (dmaAdvance delta s).ByteDue := by
  rw [dmaAdvance_eq]
  exact copyDue_settled _

theorem dmaAdvance_zero (h : ¬ s.ByteDue) : dmaAdvance 0 s = s := by
  cases ha : s.dma.active with
  | false => exact dmaAdvance_inactive 0 ha
  | true => exact dmaAdvance_short 0 ha (Nat.not_le.mp fun hb => h ⟨ha, hb⟩)

/-- With no cycles left and no byte due there is nothing to add. -/
theorem afterElapsed_level (hs : t.ppu.seen = total) (h : ¬ t.ByteDue) : afterElapsed total t = t := by
  subst hs
  unfold afterElapsed
  rw [Nat.sub_self, dmaAdvance_zero h]
  rfl

/-- A transition leaves the cycles seen and the DMA engine, which has copied what was due. -/
theorem afterElapsed_transition (h : transition (afterElapsed total s) = some t) : afterElapsed total t = t := by
  obtain ⟨p, q, rfl, hseen⟩ := transition_shape _ _ h
  exact afterElapsed_level total hseen (dmaAdvance_settled (total - s.ppu.seen) s)

/-- With a transition due `PpuStep` is `PpuStep` with no cycles left, of the state after it. -/
theorem ppuStep_transition (h : transition (afterElapsed total s) = some t) : ppuStep total s = ppuStep total t := by
  have hleft := transition_left _ _ h
  have hbound := transitionsLeft_le (afterElapsed total s)
  rw [ppuStep_eq, ppuStep_eq total t, afterElapsed_transition total h]
  obtain ⟨n, hn⟩ : ∃ n, transitionBound (afterElapsed total s) = n + 1 := ⟨_, (Nat.succ_pred (by omega)).symm⟩
  rw [hn, transitions, h]
  exact congrArg lineCompare (transitions_enough t _ _ (by omega) (transitionsLeft_le t))

/-- A mode of a legal place is not over. -/
theorem State.PhaseOk.lt_modeEnd (h : s.PhaseOk) : s.ppu.lineCycle < modeEnd s.ppu.mode := by
  have ho := h.offset
  rw [h.mode, modeAt]
  split
  · split
    · assumption
    · split <;> assumption
  · exact ho

/-- No mode is shorter than 80 cycles: a mode over by less gives way to one that is not over. -/
theorem Beam.off_next_lt {b c : Beam} (hb : b.off < modeEnd b.mode + 80) (h : b.next = some c) :
    c.off < modeEnd c.mode := by
  obtain ⟨ly, m, off⟩ := b
  unfold Beam.next at h
  cases m with
  | search | transfer =>
    dsimp only at h
    split at h <;> cases h
    simp only [modeEnd] at hb ⊢
    omega
  | hblank =>
    dsimp only at h
    split at h <;> cases h
    simp only [modeEnd] at hb ⊢
    split <;> omega
  | vblank =>
    dsimp only at h
    split at h <;> cases h
    simp only [modeEnd] at hb
    split <;> simp only [modeEnd] <;> omega

/-- From a legal place 80 cycles end at most one mode. -/
theorem transition_once (hp : s.PhaseOk) (hd : total - s.ppu.seen ≤ 80)
    (h : transition (afterElapsed total s) = some t) : transition t = none := by
  rw [transition_eq_none_iff]
  refine Beam.off_next_lt ?_ (transition_beam h)
  have hend := hp.lt_modeEnd
  show s.ppu.lineCycle + (total - s.ppu.seen) < modeEnd s.ppu.mode + 80
  omega

end

/-! ### The order of the sprites (61_devices.md R490) -/

section

variable (s : State)

/-- `i` stands before `j` in the order, or is `j`. -/
def SpriteLe (i j : Nat) : Prop := spriteBefore s i j = true

theorem spriteLe_iff (i j : Nat) : SpriteLe s i j ↔ (s.oam (4 * i + 1)).toNat < (s.oam (4 * j + 1)).toNat ∨
    ((s.oam (4 * i + 1)).toNat = (s.oam (4 * j + 1)).toNat ∧ i ≤ j) := by
  simp [SpriteLe, spriteBefore]

theorem spriteLe_trans {i j k : Nat} (h : SpriteLe s i j) (h' : SpriteLe s j k) : SpriteLe s i k := by
  rw [spriteLe_iff] at *
  omega

theorem spriteLe_of_not {i j : Nat} (h : ¬ SpriteLe s i j) : SpriteLe s j i := by
  rw [spriteLe_iff] at *
  omega

/-- A sprite put in its place in a list in order leaves it in order. -/
theorem insertSprite_pairwise (i : Nat) {l : List Nat} (h : l.Pairwise (SpriteLe s)) :
    (insertSprite s i l).Pairwise (SpriteLe s) := by
  induction l with
  | nil => exact List.pairwise_singleton _ _
  | cons j l ih =>
    obtain ⟨hj, hl⟩ := List.pairwise_cons.mp h
    rw [insertSprite]
    split
    · next hij =>
      refine List.pairwise_cons.mpr ⟨fun k hk => ?_, h⟩
      rcases List.mem_cons.mp hk with rfl | hk
      · exact hij
      · exact spriteLe_trans s hij (hj k hk)
    · next hij =>
      refine List.pairwise_cons.mpr ⟨fun k hk => ?_, ih hl⟩
      rcases List.mem_cons.mp ((insertSprite_perm s i l).mem_iff.mp hk) with rfl | hk
      · exact spriteLe_of_not s hij
      · exact hj k hk

theorem sortSprites_pairwise (l : List Nat) : (sortSprites s l).Pairwise (SpriteLe s) := by
  induction l with
  | nil => exact .nil
  | cons i l ih => exact insertSprite_pairwise s i ih

/-- No entry is selected twice. -/
theorem selectedSprites_nodup : (selectedSprites s).Nodup := (List.nodup_range.filter _).take

/-- The vertical span as the entry's byte gives it, 16 above the line. -/
theorem spriteCovers_eq (i : Nat) : spriteCovers s i =
    (decide ((s.oam (4 * i)).toNat ≤ s.ppu.ly.toNat + 16) &&
      decide (s.ppu.ly.toNat + 16 < (s.oam (4 * i)).toNat + (if s.ppu.lcdc.getLsbD 2 then 16 else 8))) := by
  unfold spriteCovers spriteHeight
  generalize (if s.ppu.lcdc.getLsbD 2 then 16 else 8 : Nat) = h
  exact congrArg₂ and (decide_eq_decide.mpr (by omega)) (decide_eq_decide.mpr (by omega))

end

/-! ### The pixels of a line (61_devices.md R492 to R495) -/

section

variable (s : State)

/-- The columns drawn hold their shades. -/
theorem drawColumns_drawn {n x : Nat} {fb : Frame} (hf : Sparse.wf fb = true) (hx : x < n) :
    (drawColumns s n fb).get (s.ppu.ly.toNat * 160 + x) = pixelShade s x := by
  induction n with
  | zero => exact absurd hx (Nat.not_lt_zero x)
  | succ n ih =>
    rw [drawColumns]
    by_cases h : x = n
    · subst h
      exact Sparse.get_set_same _ _ _ (drawColumns_wf s x fb hf)
    · rw [Sparse.get_set_other _ _ _ _ (by show _ ≠ s.ppu.ly.toNat * 160 + n; omega)]
      exact ih (by omega)

/-- No pixel outside the columns drawn has changed. -/
theorem drawColumns_other {n k : Nat} (fb : Frame)
    (hk : k < s.ppu.ly.toNat * 160 ∨ s.ppu.ly.toNat * 160 + n ≤ k) : (drawColumns s n fb).get k = fb.get k := by
  induction n with
  | zero => rfl
  | succ n ih =>
    rw [drawColumns, Sparse.get_set_other _ _ _ _ (by show _ ≠ s.ppu.ly.toNat * 160 + n; omega)]
    exact ih (by omega)

/-- A byte of the video memory at its bus address (10_state.md R70). -/
theorem vram_eq (i : Nat) : s.vram i = s.mem.read (0x8000 + i) := rfl

/-- The pixel of a tile: a bit of each of the two bytes of its row, the second the high bit (R495). -/
theorem tilePixel_toNat {u : Bool} {tile : Byte} {base : Nat} (row col : Nat)
    (hb : base = 0x8000 + tileBase u tile) : (tilePixel s u tile row col).toNat =
      2 * ((s.mem.read (base + 2 * row + 1)).getLsbD (7 - col)).toNat +
        ((s.mem.read (base + 2 * row)).getLsbD (7 - col)).toNat := by
  subst hb
  unfold tilePixel
  simp only [vram_eq, ← Nat.add_assoc]
  generalize (s.mem.read (0x8000 + tileBase u tile + 2 * row + 1)).getLsbD (7 - col) = high
  generalize (s.mem.read (0x8000 + tileBase u tile + 2 * row)).getLsbD (7 - col) = low
  revert high low
  decide

/-- Tiles lie unsigned from 0x8000 or signed around 0x9000 (R495). -/
theorem tileBase_eq (u : Bool) (tile : Byte) : 0x8000 + tileBase u tile =
    (if u = true ∨ 128 ≤ tile.toNat then 0x8000 + tile.toNat * 16 else 0x9000 + tile.toNat * 16) := by
  have hlt := tile.isLt
  cases u with
  | true => rfl
  | false =>
    have hint : tile.toInt = if 128 ≤ tile.toNat then (tile.toNat : Int) - 256 else tile.toNat := by
      rw [BitVec.toInt_eq_toNat_cond]
      split <;> split <;> omega
    simp only [tileBase, Bool.false_eq_true, if_false, false_or, hint]
    split <;> omega

/-- The maps lie at 0x9800 and 0x9C00 (R493, R494). -/
theorem mapBase_eq (second : Bool) : 0x8000 + mapBase second = if second then 0x9C00 else 0x9800 := by
  cases second <;> rfl

/-- A pixel of a map is that of the tile the map names at its place. -/
theorem mapPixel_eq {second : Bool} {map : Nat} (px py : Nat) (hm : map = if second then 0x9C00 else 0x9800) :
    mapPixel s second px py =
      tilePixel s (s.ppu.lcdc.getLsbD 4) (s.mem.read (map + py / 8 * 32 + px / 8)) (py % 8) (px % 8) := by
  rw [hm, ← mapBase_eq]
  simp only [mapPixel, vram_eq, Nat.add_assoc]

/-- The place in the map a column shows: in the window the distance from its top-left, else scrolled. -/
theorem bgWindowIndex_eq (x : Nat) (hon : s.ppu.lcdc.getLsbD 0 = true) :
    bgWindowIndex s x = mapPixel s (s.ppu.lcdc.getLsbD (if windowApplies s x then 6 else 3))
      (if windowApplies s x then x + 7 - s.ppu.wx.toNat else (x + s.ppu.scx.toNat) % 256)
      (if windowApplies s x then s.ppu.ly.toNat - s.ppu.wy.toNat else (s.ppu.ly.toNat + s.ppu.scy.toNat) % 256) := by
  rw [bgWindowIndex, hon]
  cases windowApplies s x <;> rfl

/-! ### The pixel of a column (61_devices.md R492, R496, R497) -/

theorem spriteSuppressed_iff (flags : Byte) (ci bg : BitVec 2) :
    spriteSuppressed flags ci bg = true ↔ ci = 0#2 ∨ (flags.getLsbD 7 = true ∧ bg ≠ 0#2) := by
  simp [spriteSuppressed]

/-- Behind sprites that are all suppressed or absent comes the first that is not. -/
theorem firstSpritePixel_found {x i : Nat} {bg ci : BitVec 2} {before after : List Nat}
    (hskip : ∀ j ∈ before, ∀ cj, spriteIndexAt s x j = some cj →
      cj = 0#2 ∨ ((s.oam (4 * j + 3)).getLsbD 7 = true ∧ bg ≠ 0#2))
    (hi : spriteIndexAt s x i = some ci) (hshown : ¬ (ci = 0#2 ∨ ((s.oam (4 * i + 3)).getLsbD 7 = true ∧ bg ≠ 0#2))) :
    firstSpritePixel s x bg (before ++ i :: after) = some (ci, spritePalette s.ppu (s.oam (4 * i + 3))) := by
  rw [firstSpritePixel_skip s x bg before _ fun j hj cj hcj => (spriteSuppressed_iff _ _ _).mpr (hskip j hj cj hcj),
    firstSpritePixel, hi]
  exact if_neg fun h => hshown ((spriteSuppressed_iff _ _ _).mp h)

/-- With every sprite suppressed or absent none has a pixel. -/
theorem firstSpritePixel_none {x : Nat} {bg : BitVec 2} {l : List Nat}
    (hskip : ∀ j ∈ l, ∀ cj, spriteIndexAt s x j = some cj →
      cj = 0#2 ∨ ((s.oam (4 * j + 3)).getLsbD 7 = true ∧ bg ≠ 0#2)) : firstSpritePixel s x bg l = none := by
  rw [← List.append_nil l,
    firstSpritePixel_skip s x bg l _ fun j hj cj hcj => (spriteSuppressed_iff _ _ _).mpr (hskip j hj cj hcj)]
  rfl

theorem pixelShade_sprite {x : Nat} {ci : BitVec 2} {palette : Byte} (hon : s.ppu.lcdc.getLsbD 1 = true)
    (h : firstSpritePixel s x (bgWindowIndex s x) s.ppu.visible = some (ci, palette)) :
    pixelShade s x = shadeOf palette ci := by
  rw [pixelShade, spritePixel, hon, h]
  rfl

theorem pixelShade_background {x : Nat}
    (h : s.ppu.lcdc.getLsbD 1 = false ∨ firstSpritePixel s x (bgWindowIndex s x) s.ppu.visible = none) :
    pixelShade s x = shadeOf s.ppu.bgp (bgWindowIndex s x) := by
  have hnone : spritePixel s x (bgWindowIndex s x) = none := by
    rw [spritePixel]
    rcases h with h | h <;> rw [h]
    · rfl
    · exact ite_self none
  rw [pixelShade, hnone]

/-- Of the pair of tiles of a 16-line sprite the even one has the upper eight rows (R496). -/
theorem tileOfPair (tile : Byte) {r : Nat} (hr : r < 16) :
    (tile &&& 0xFE#8) ||| (if r ≥ 8 then 1#8 else 0#8) = BitVec.ofNat 8 (tile.toNat / 2 * 2 + r / 8) := by
  have hall : ∀ (tile : Byte) (b : Bool), (tile &&& 0xFE#8) ||| (if b then 1#8 else 0#8) =
      BitVec.ofNat 8 (tile.toNat / 2 * 2 + b.toNat) := by decide
  rcases Nat.lt_or_ge r 8 with h | h
  · rw [if_neg (Nat.not_le.mpr h), show r / 8 = 0 by omega]
    exact hall tile false
  · rw [if_pos h, show r / 8 = 1 by omega]
    exact hall tile true

/-- A byte of an entry of the sprite table at its bus address (10_state.md R69). -/
theorem oam_eq (i k : Nat) : s.oam (4 * i + k) = s.mem.read (0xFE00 + k + 4 * i) := by
  rw [Nat.add_assoc, Nat.add_comm k]
  rfl

/-- The pixel of a sprite by the place its flips leave: none outside its columns and lines (R496). -/
theorem spriteIndexAt_eq {x i h r c : Nat} {col row : Int} (hh : h = spriteHeight s.ppu)
    (hcol : col = (x : Int) - ((s.oam (4 * i + 1)).toNat - 8))
    (hrow : row = (s.ppu.ly.toNat : Int) - ((s.oam (4 * i)).toNat - 16))
    (hr : r = if (s.oam (4 * i + 3)).getLsbD 6 then h - 1 - row.toNat else row.toNat)
    (hc : c = if (s.oam (4 * i + 3)).getLsbD 5 then 7 - col.toNat else col.toNat) : spriteIndexAt s x i =
      (if col < 0 ∨ 7 < col ∨ row < 0 ∨ (h : Int) ≤ row then none
        else if h = 16 then
          some (tilePixel s true (BitVec.ofNat 8 ((s.oam (4 * i + 2)).toNat / 2 * 2 + r / 8)) (r % 8) c)
        else some (tilePixel s true (s.oam (4 * i + 2)) r c)) := by
  unfold spriteIndexAt
  dsimp only
  rw [← hh, ← hcol, ← hrow, ← hr, ← hc]
  by_cases hcols : col < 0 ∨ col > 7
  · rw [if_pos hcols, if_pos (by omega)]
  by_cases hlines : row < 0 ∨ row ≥ h
  · rw [if_neg hcols, if_pos hlines, if_pos (by omega)]
  have hinside : ¬ (col < 0 ∨ 7 < col ∨ row < 0 ∨ (h : Int) ≤ row) := by omega
  rw [if_neg hcols, if_neg hlines, if_neg hinside]
  by_cases hpair : h = 16
  · have hlt : r < 16 := by
      rw [hr]
      split <;> omega
    rw [if_pos hpair, if_pos hpair, tileOfPair _ hlt]
  · rw [if_neg hpair, if_neg hpair]

/-- A palette has four entries of two bits (R497). -/
theorem shadeOf_toNat (palette : Byte) (ci : BitVec 2) :
    (shadeOf palette ci).toNat = palette.toNat / 4 ^ ci.toNat % 4 := by
  rw [shadeOf, BitVec.extractLsb'_toNat, Nat.shiftRight_eq_div_pow, Nat.pow_mul]
  

end

end Sys2Proof.Machine

/-! ### The obligations -/

namespace Sys2Proof.Settled

open Machine

/-- Settles O50: the elapsed cycles are added to the position, the transitions keep it but for whole frames, and the legal
place they end in lies within the frame. -/
theorem frameClock : Obligations.FrameClock := by
  intro s total h
  have hp := Paced.ppuStep total s
  have hend := h.ppuStep total
  refine ⟨hend, ?position, ppuStep_seen total s, hp.cpu, hp.timer⟩
  case position =>
    have hbegun : (afterElapsed total s).beam.Begun := h.begun (total - s.ppu.seen)
    calc framePosition (ppuStep total s)
      _ = framePosition (ppuStep total s) % 70224 := (Nat.mod_eq_of_lt hend.framePosition_lt).symm
      _ = (afterElapsed total s).beam.position % 70224 := by
        rw [framePosition_eq, ppuStep_eq, lineCompare_beam, transitions_position _ hbegun]
      _ = (framePosition s + (total - s.ppu.seen)) % 70224 := by rw [framePosition, Nat.add_assoc]; rfl

/-- Settles O43: a cycle that is no step of the counter counts alone, one that is a step counts and steps TIMA. -/
theorem tickCounts : Obligations.TickCounts := by
  refine fun n s => ⟨tick_eq n s, fun h => tick_disabled h n, ?_, fun ht hp hf => ?_, timerPeriod_eq s⟩
  · rintro m ht rfl h
    exact tick_enabled ht n h
  · show tickOne s = _
    rw [tickOne_steps ht hp, timaStep, if_pos hf]
    rfl

/-- Settles O52: after line 143 the entry into VBlank is the one due. -/
theorem vblankEntry : Obligations.VblankEntry := by
  intro s hm hl hc
  have hnext : (s.ppu.ly + 1#8).toNat = 144 := by rw [hl]; rfl
  have hp := enterVblank_ppu (nextLine s)
  have paced := (Paced.nextLine s).trans (Paced.enterVblank _)
  refine ⟨_, by rw [transition_hblank hm hc, if_pos hnext], ?_⟩
  rw [hp]
  exact ⟨by rw [nextLine, hl]; rfl, rfl, rfl, rfl, rfl, rfl, enterVblank_requested _, paced.cpu, enterVblank_mem _,
    paced.timer, enterVblank_dma _⟩

/-- Settles O53: each entry is the one due, and each line after a line is the next. -/
theorem modeEntries : Obligations.ModeEntries := by
  intro s
  refine ⟨fun hm hc => transition_search hm hc, fun hm hc => ?hblank, fun hm hc hl => ?search, fun hm hc hl => ?line,
    fun hm hc hl => ?frame⟩
  case hblank =>
    exact ⟨_, transition_transfer hm hc, enterHblank_ppu_eq s, enterHblank_requested s, (Paced.enterHblank s).cpu,
      enterHblank_mem s⟩
  case search =>
    have hlast : (s.ppu.ly + 1#8).toNat ≠ 144 := by bv_omega
    obtain ⟨hmode, hly, hcycle, hdraw, hready, -⟩ := enterSearch_keeps (nextLine s)
    exact ⟨_, by rw [transition_hblank hm hc, if_neg hlast], hmode, hly, hcycle, enterSearch_visible _ rfl rfl rfl,
      enterSearch_requested _, hdraw, hready, (Paced.enterSearch (nextLine s)).cpu, enterSearch_mem _⟩
  case line =>
    have hlast : (s.ppu.ly + 1#8).toNat ≠ 154 := by bv_omega
    rw [transition_vblank hm hc, if_neg hlast]
    rfl
  case frame =>
    have hlast : (s.ppu.ly + 1#8).toNat = 154 := by bv_omega
    obtain ⟨hmode, hly, hcycle, hdraw, hready, hflag⟩ :=
      enterSearch_keeps { nextLine s with ppu := { (nextLine s).ppu with ly := 0#8 } }
    exact ⟨_, by rw [transition_vblank hm hc, if_pos hlast], hmode, hly, hcycle, enterSearch_visible _ rfl rfl rfl,
      enterSearch_requested _, hdraw, hready, hflag, (Paced.enterSearch _).cpu, enterSearch_mem _⟩

/-- Settles O55: the line compare comes last; with no transition due it is all; a transition due is made first, and what
remains is `PpuStep` of the state after it. -/
theorem lineCompareEachStep : Obligations.LineCompareEachStep := by
  intro s total
  have hpaced := Paced.ppuStep total s
  have hmatch : (ppuStep total s).ppu.lycMatch = decide ((ppuStep total s).ppu.ly = s.ppu.lyc) := by
    rw [← hpaced.lyc, ppuStep_eq, lineCompare_ppu]
  refine ⟨hmatch, fun hm he => ?requests, ?parts, fun _ hc => ?quiet⟩
  case requests =>
    rw [hmatch, decide_eq_true_eq, ← hpaced.lyc] at hm
    rw [← hpaced.statEn] at he
    rw [ppuStep_eq, lineCompare_eq] at hm he ⊢
    exact lineCompared_requests hm he
  case parts =>
    rintro u rfl
    refine ⟨transition_eq_none_iff _, ppuStep_still total, fun t => ppuStep_transition total, fun t hp hd ht => ?_⟩
    have hlevel := afterElapsed_transition total ht
    rw [ppuStep_transition total ht, ppuStep_still total (by rw [hlevel]; exact transition_once total hp hd ht), hlevel]
  case quiet =>
    have hirq : (afterElapsed total s).irq = s.irq := by
      obtain ⟨m, e, d, hd⟩ := dmaAdvance_shape (total - s.ppu.seen) s
      rw [afterElapsed, hd]
    rw [ppuStep_still total ((transition_eq_none_iff _).mpr hc)]
    refine ⟨rfl, ?_⟩
    rw [← hirq]
    rfl

/-- Settles O56: the columns are drawn one after another into the line, and each layer's pixel is that of a tile the map
names. -/
theorem renderWritesOneLine : Obligations.RenderWritesOneLine := by
  refine fun s => ⟨fun hf hl => ?line, fun x px py map tile window => ⟨fun hoff => ?off, ?layer⟩,
    fun u tile row col base _ _ hb => ?pixel⟩
  case line =>
    rw [renderLine_eq, if_pos hl]
    dsimp only
    exact ⟨fun x hx => drawColumns_drawn s hf hx, fun k hk => drawColumns_other s _ hk, rfl, rfl, rfl⟩
  case off =>
    rw [bgWindowIndex, hoff]
    rfl
  case layer =>
    intro hon hw hpx hpy hmap htile
    have hwindow : windowApplies s x = window := by rw [windowApplies, hon, hw, Bool.true_and]
    rw [bgWindowIndex_eq s x hon, hwindow, ← hpx, ← hpy, mapPixel_eq s px py hmap, htile]
  case pixel => exact tilePixel_toNat s row col (by rw [hb, tileBase_eq])

/-- Settles O57: the selection is sorted by insertion, and as no entry is in it twice, two of its entries with the same x
are told apart by their index. -/
theorem spriteSearchOrder : Obligations.SpriteSearchOrder := by
  intro s
  have hperm : (spriteSearch s).ppu.visible.Perm (selectedSprites s) := sortSprites_perm s _
  refine ⟨?order, ?selection⟩
  case order =>
    have hsorted : (spriteSearch s).ppu.visible.Pairwise (SpriteLe s) := sortSprites_pairwise s _
    refine (hsorted.and (hperm.nodup_iff.mpr (selectedSprites_nodup s))).imp fun {i j} ⟨hle, hne⟩ => ?_
    rw [spriteLe_iff] at hle
    omega
  case selection =>
    rw [← show spriteCovers s = _ from funext (spriteCovers_eq s)]
    exact hperm

/-- Settles O58: the sprites before the first unsuppressed one are passed over, and the pixel of a sprite is that of its
tile at the row and column its flips leave. -/
theorem pixelPriority : Obligations.PixelPriority := by
  refine fun s x before after i ci => ⟨fun hon hlist hskip hi hci hfront => ?first, fun h => ?background, ?own,
    fun palette => shadeOf_toNat palette ci⟩
  case first =>
    refine pixelShade_sprite s hon ?_
    rw [hlist]
    refine firstSpritePixel_found s hskip hi ?_
    rintro (h0 | ⟨hflag, hbg⟩)
    · exact hci h0
    · rcases hfront with hclear | hzero
      · exact Bool.false_ne_true (hclear.symm.trans hflag)
      · exact hbg hzero
  case background => exact pixelShade_background s (h.imp_right (firstSpritePixel_none s))
  case own =>
    rintro sy sx tile flags h r c row col rfl rfl rfl rfl hh hcol hrow hr hc
    have h0 : s.mem.read (0xFE00 + 4 * i) = s.oam (4 * i) := rfl
    have h1 : s.mem.read (0xFE01 + 4 * i) = s.oam (4 * i + 1) := (oam_eq s i 1).symm
    have h2 : s.mem.read (0xFE02 + 4 * i) = s.oam (4 * i + 2) := (oam_eq s i 2).symm
    have h3 : s.mem.read (0xFE03 + 4 * i) = s.oam (4 * i + 3) := (oam_eq s i 3).symm
    rw [h0] at hrow
    rw [h1] at hcol
    rw [h3] at hr hc
    rw [h2]
    exact spriteIndexAt_eq s hh hcol hrow hr hc

/-- Settles O59: an advance adds its cycles to the budget and copies the bytes that are due, one after another; and
`PpuStep` changes nothing of what the engine has done. -/
theorem dmaCopiesThePage : Obligations.DmaCopiesThePage := by
  refine ⟨fun s delta => dmaAdvance_count delta, fun s delta n hm _ hd ha hn hq => ?page,
    fun s delta a ha hl hat => ⟨dmaAdvance_short delta ha, fun h4 h8 => ?byte⟩, fun s m n => dmaAdvance_add m n s,
    fun s delta => dmaAdvance_inactive delta, fun s total => ?inside⟩
  case page =>
    have hindex : (dmaAdvance delta s).dma.index = n := by rw [hn, (dmaAdvance_count delta ha (hd.left ha)).1]
    obtain ⟨m, e, d, hshape⟩ := dmaAdvance_shape delta s
    have hpage := dmaAdvance_pageCopied delta ha hm ⟨hd.left, hd.index, hd.source⟩ (by rwa [hindex])
    rw [← hindex]
    exact ⟨hpage.copied, hpage.kept, by rw [hshape], by rw [hshape], by rw [hshape], by rw [hshape]⟩
  case byte =>
    obtain rfl : a = s.dma.at := hat
    have hstore : (memReadEffect s.dma.at s).setOam s.dma.index ((memPeek s.dma.at s).getD 0xFF#8) =
        { memReadEffect s.dma.at s with
          mem := s.mem.write (0xFE00 + s.dma.index) ((memPeek s.dma.at s).getD 0xFF#8) } := by
      rw [← memReadEffect_mem s.dma.at s]
      exact if_pos hl
    rw [dmaAdvance_byte delta ha h4 h8, dmaCopyByte_eq, hstore,
      Dma.afterByte_eq (d := { s.dma with budget := s.dma.budget + delta }) ha hl]
    rfl
  case inside =>
    obtain ⟨p, q, hshape⟩ := ppuStep_shape total s
    rw [hshape]
    exact ⟨rfl, rfl, rfl⟩

end Sys2Proof.Settled
end

section
/-! SUPPORT. Proofs for the family 70_reset_and_hazards.md: what each shared operation charges beyond the fetch,
that with the fetch it is the count of the table, and what a step adds to the clock. -/

/-! ### What an operation charges (00_scope.md R12) -/

namespace Sys2Proof

/-- What reading or writing an operand charges: a memory operand one access (30_encoding.md R166). -/
def Operand.cost (o : Operand) : Nat :=
  match o with
  | .reg _ | .imm _ => 0
  | .indBc | .indDe | .indHl | .indHlInc | .indHlDec | .abs _ | .high _ | .highC => 4

namespace Machine

/-- The operation completes and charges `n` cycles. -/
def Spends (n : Nat) (s : State) (r : Result) : Prop := ∃ t, r = .next t ∧ t.timer.cycles = s.timer.cycles + n

section

variable (s : State)

theorem cost_eq (o : Operand) : o.cost = if (operandAddress o s).isSome then 4 else 0 := by cases o <;> rfl

@[simp] theorem operandAfter_timer (o : Operand) : (operandAfter o s).timer = s.timer := by cases o <;> rfl

@[simp] theorem operandWrite_timer (o : Operand) (v : Byte) : (operandWrite o v s).timer = s.timer := by
  cases o <;> rfl

@[simp] theorem rd_clock (o : Operand) : (rd o s).2.timer.cycles = s.timer.cycles + o.cost := by
  rw [cost_eq s o]
  unfold rd
  split <;> next h => simp [h, cpuRead_eq]

@[simp] theorem wr_clock (o : Operand) (v : Byte) : (wr o v s).timer.cycles = s.timer.cycles + o.cost := by
  rw [cost_eq s o]
  unfold wr
  split <;> next h => simp [h, cpuWrite_eq]

@[simp] theorem afterPush_clock (w : Word) : (afterPush w s).timer.cycles = s.timer.cycles + 8 := by
  simp [afterPush]

@[simp] theorem afterPop_clock : (afterPop s).timer.cycles = s.timer.cycles + 8 := by
  simp [afterPop]

@[simp] theorem returnFromCall_clock : (returnFromCall s).timer.cycles = s.timer.cycles + 12 := by
  simp [returnFromCall_eq]

@[simp] theorem callTo_clock (w : Word) : (callTo w s).timer.cycles = s.timer.cycles + 12 := by
  simp [callTo_eq]

@[simp] theorem jumpTo_clock (w : Word) : (jumpTo w s).timer.cycles = s.timer.cycles + 4 := by
  simp [jumpTo_eq]

@[simp] theorem jumpBy_clock (e : Byte) : (jumpBy e s).timer.cycles = s.timer.cycles + 4 := by
  simp [jumpBy_eq]

variable {s}

theorem spends_ld (d q : Operand) : Spends (q.cost + d.cost) s (ld d q s) :=
  ⟨_, rfl, by simp [Nat.add_assoc]⟩

theorem spends_alu (op : AluOp) (o : Operand) : Spends o.cost s (alu op o s) := ⟨_, rfl, by simp⟩

theorem spends_inc8 (o : Operand) : Spends (o.cost + o.cost) s (inc8 o s) := ⟨_, rfl, by simp [Nat.add_assoc]⟩

theorem spends_dec8 (o : Operand) : Spends (o.cost + o.cost) s (dec8 o s) := ⟨_, rfl, by simp [Nat.add_assoc]⟩

theorem spends_rotate (op : RotOp) (o : Operand) : Spends (o.cost + o.cost) s (rotate op o s) :=
  ⟨_, rfl, by simp [Nat.add_assoc]⟩

theorem spends_bitTest (b : Fin 8) (o : Operand) : Spends o.cost s (bitTest b o s) := ⟨_, rfl, by simp⟩

theorem spends_bitReset (b : Fin 8) (o : Operand) : Spends (o.cost + o.cost) s (bitReset b o s) :=
  ⟨_, rfl, by simp [Nat.add_assoc]⟩

theorem spends_bitSet (b : Fin 8) (o : Operand) : Spends (o.cost + o.cost) s (bitSet b o s) :=
  ⟨_, rfl, by simp [Nat.add_assoc]⟩

theorem spends_ldPair (p : Pair) (w : Word) : Spends 0 s (ldPair p w s) := ⟨_, rfl, by simp⟩

theorem spends_ldA16Sp (w : Word) : Spends 8 s (ldA16Sp w s) := ⟨_, rfl, by simp [cpuWrite_eq]⟩

theorem spends_push (k : StkPair) : Spends 12 s (push k s) := ⟨_, rfl, by simp [push16_eq, internal_eq]⟩

theorem spends_pop (k : StkPair) : Spends 8 s (pop k s) := ⟨_, rfl, by simp [pop16_eq]⟩

theorem spends_addHl (p : Pair) : Spends 4 s (addHl p s) := ⟨_, rfl, by simp [internal_eq]⟩

theorem spends_incPair (p : Pair) : Spends 4 s (incPair p s) := ⟨_, rfl, by simp [internal_eq]⟩

theorem spends_decPair (p : Pair) : Spends 4 s (decPair p s) := ⟨_, rfl, by simp [internal_eq]⟩

theorem spends_ldSpHl : Spends 4 s (ldSpHl s) := ⟨_, rfl, by simp [internal_eq]⟩

theorem spends_ldHlSp (e : Byte) : Spends 4 s (ldHlSp e s) := ⟨_, rfl, by simp [internal_eq]⟩

theorem spends_addSp (e : Byte) : Spends 8 s (addSp e s) := ⟨_, rfl, by simp [internal_eq]⟩

theorem spends_rotateA (op : RotOp) : Spends 0 s (rotateA op s) := ⟨_, rfl, by simp⟩

theorem spends_jp (w : Word) : Spends 4 s (jp w s) := ⟨_, rfl, by simp⟩

theorem spends_jr (e : Byte) : Spends 4 s (jr e s) := ⟨_, rfl, by simp⟩

theorem spends_call (w : Word) : Spends 12 s (call w s) := ⟨_, rfl, by simp⟩

theorem spends_rst (b : Fin 8) : Spends 12 s (rst b s) := ⟨_, rfl, by simp⟩

theorem spends_ret : Spends 12 s (ret s) := ⟨_, rfl, by simp⟩

theorem spends_reti : Spends 12 s (reti s) := ⟨_, rfl, by simp [returnFromInterrupt]⟩

end

/-! ### The count of the table is the fetch and what the operation charges (70_reset_and_hazards.md R586) -/

/-- Behind its fetch the instruction completes with the clock at the count of the table. -/
def Clocked (i : Instr) (s : State) : Prop :=
  ∃ t, exec i s = .next t ∧ t.timer.cycles + 4 * (encode i).length = s.timer.cycles + i.cycles s.cpu.f

/-- An operation charges what the table counts beyond 4 cycles for each byte. -/
theorem Spends.clocked {n : Nat} {i : Instr} {s : State} (h : Spends n s (exec i s))
    (hcount : i.cycles s.cpu.f = 4 * (encode i).length + n) : Clocked i s := by
  obtain ⟨t, he, ht⟩ := h
  exact ⟨t, he, by omega⟩

section

variable (s : State) (r q : Reg8) (n : Byte) (w : Word) (op : AluOp) (o : RotOp) (p : Pair) (k : StkPair) (a : PairMem)
  (b : Fin 8) (cc : Cond)

/-! #### Loads and the stack (40_load8.md, 41_load16.md) -/

theorem clocked_mkLdRR : Clocked (.mkLdRR r q) s :=
  Spends.clocked (exec_mkLdRR r q s ▸ spends_ld (.reg r) (.reg q)) (by cases r <;> cases q <;> rfl)

theorem clocked_mkLdImm : Clocked (.mkLdImm r n) s :=
  Spends.clocked (exec_mkLdImm r n s ▸ spends_ld (.reg r) (.imm n)) (by cases r <;> rfl)

theorem clocked_mkLdM : Clocked (.mkLdM r) s :=
  Spends.clocked (exec_mkLdM r s ▸ spends_ld (.reg r) .indHl) (by cases r <;> rfl)

theorem clocked_mkLdMR : Clocked (.mkLdMR r) s :=
  Spends.clocked (exec_mkLdMR r s ▸ spends_ld .indHl (.reg r)) (by cases r <;> rfl)

theorem clocked_mkStA : Clocked (.mkStA a) s := by
  cases a
  · exact Spends.clocked (spends_ld .indBc (.reg .a)) rfl
  · exact Spends.clocked (spends_ld .indDe (.reg .a)) rfl
  · exact Spends.clocked (spends_ld .indHlInc (.reg .a)) rfl
  · exact Spends.clocked (spends_ld .indHlDec (.reg .a)) rfl

theorem clocked_mkLdA : Clocked (.mkLdA a) s := by
  cases a
  · exact Spends.clocked (spends_ld (.reg .a) .indBc) rfl
  · exact Spends.clocked (spends_ld (.reg .a) .indDe) rfl
  · exact Spends.clocked (spends_ld (.reg .a) .indHlInc) rfl
  · exact Spends.clocked (spends_ld (.reg .a) .indHlDec) rfl

theorem clocked_mkLdPair : Clocked (.mkLdPair p w) s :=
  Spends.clocked (exec_mkLdPair p w s ▸ spends_ldPair p w) (by cases p <;> rfl)

theorem clocked_mkPush : Clocked (.mkPush k) s :=
  Spends.clocked (exec_mkPush k s ▸ spends_push k) (by cases k <;> rfl)

theorem clocked_mkPop : Clocked (.mkPop k) s :=
  Spends.clocked (exec_mkPop k s ▸ spends_pop k) (by cases k <;> rfl)

/-! #### Arithmetic (42_alu8.md, 43_alu16.md) -/

theorem clocked_mkAluR : Clocked (.mkAluR op r) s :=
  Spends.clocked (exec_mkAluR op r s ▸ spends_alu op (.reg r)) (by cases op <;> cases r <;> rfl)

theorem clocked_mkAluM : Clocked (.mkAluM op) s :=
  Spends.clocked (exec_mkAluM op s ▸ spends_alu op .indHl) (by cases op <;> rfl)

theorem clocked_mkAluImm : Clocked (.mkAluImm op n) s :=
  Spends.clocked (exec_mkAluImm op n s ▸ spends_alu op (.imm n)) (by cases op <;> rfl)

theorem clocked_mkInc : Clocked (.mkInc r) s :=
  Spends.clocked (exec_mkInc r s ▸ spends_inc8 (.reg r)) (by cases r <;> rfl)

theorem clocked_mkDec : Clocked (.mkDec r) s :=
  Spends.clocked (exec_mkDec r s ▸ spends_dec8 (.reg r)) (by cases r <;> rfl)

theorem clocked_mkAddHl : Clocked (.mkAddHl p) s :=
  Spends.clocked (exec_mkAddHl p s ▸ spends_addHl p) (by cases p <;> rfl)

theorem clocked_mkIncPair : Clocked (.mkIncPair p) s :=
  Spends.clocked (exec_mkIncPair p s ▸ spends_incPair p) (by cases p <;> rfl)

theorem clocked_mkDecPair : Clocked (.mkDecPair p) s :=
  Spends.clocked (exec_mkDecPair p s ▸ spends_decPair p) (by cases p <;> rfl)

/-! #### Control (45_control.md) -/

theorem clocked_mkRst : Clocked (.mkRst b) s :=
  Spends.clocked (exec_mkRst b s ▸ spends_rst b) (by revert b; exact Fin.forall_eight rfl rfl rfl rfl rfl rfl rfl rfl)

theorem cycles_mkJrCc (f : Flags) : (Instr.mkJrCc cc n).cycles f = if f.holds cc then 12 else 8 := by cases cc <;> rfl

theorem cycles_mkJpCc (f : Flags) : (Instr.mkJpCc cc w).cycles f = if f.holds cc then 16 else 12 := by cases cc <;> rfl

theorem cycles_mkCallCc (f : Flags) : (Instr.mkCallCc cc w).cycles f = if f.holds cc then 24 else 12 := by
  cases cc <;> rfl

theorem cycles_mkRetCc (f : Flags) : (Instr.mkRetCc cc).cycles f = if f.holds cc then 20 else 8 := by cases cc <;> rfl

theorem length_mkJrCc : (encode (.mkJrCc cc n)).length = 2 := by cases cc <;> rfl

theorem length_mkJpCc : (encode (.mkJpCc cc w)).length = 3 := by cases cc <;> rfl

theorem length_mkCallCc : (encode (.mkCallCc cc w)).length = 3 := by cases cc <;> rfl

theorem length_mkRetCc : (encode (.mkRetCc cc)).length = 1 := by cases cc <;> rfl

theorem clocked_mkJrCc : Clocked (.mkJrCc cc n) s := by
  cases h : s.cpu.f.holds cc
  · exact ⟨_, exec_mkJrCc_notTaken h n, by simp [cycles_mkJrCc, length_mkJrCc, h]⟩
  · exact ⟨_, exec_mkJrCc_taken h n, by simp [cycles_mkJrCc, length_mkJrCc, h, Nat.add_assoc]⟩

theorem clocked_mkJpCc : Clocked (.mkJpCc cc w) s := by
  cases h : s.cpu.f.holds cc
  · exact ⟨_, exec_mkJpCc_notTaken h w, by simp [cycles_mkJpCc, length_mkJpCc, h]⟩
  · exact ⟨_, exec_mkJpCc_taken h w, by simp [cycles_mkJpCc, length_mkJpCc, h, Nat.add_assoc]⟩

theorem clocked_mkCallCc : Clocked (.mkCallCc cc w) s := by
  cases h : s.cpu.f.holds cc
  · exact ⟨_, exec_mkCallCc_notTaken h w, by simp [cycles_mkCallCc, length_mkCallCc, h]⟩
  · exact ⟨_, exec_mkCallCc_taken h w, by simp [cycles_mkCallCc, length_mkCallCc, h, Nat.add_assoc]⟩

theorem clocked_mkRetCc : Clocked (.mkRetCc cc) s := by
  cases h : s.cpu.f.holds cc
  · exact ⟨_, exec_mkRetCc_notTaken h, by simp [cycles_mkRetCc, length_mkRetCc, h, Nat.add_assoc]⟩
  · exact ⟨_, exec_mkRetCc_taken h, by simp [cycles_mkRetCc, length_mkRetCc, h, Nat.add_assoc]⟩

/-! #### The extended rows (46_cb_bitops.md) -/

theorem clocked_mkRotR : Clocked (.mkRotR o r) s :=
  Spends.clocked (exec_mkRotR o r s ▸ spends_rotate o (.reg r)) (by cases o <;> cases r <;> rfl)

theorem clocked_mkRotM : Clocked (.mkRotM o) s :=
  Spends.clocked (exec_mkRotM o s ▸ spends_rotate o .indHl) (by cases o <;> rfl)

theorem clocked_mkBitR : Clocked (.mkBitR b r) s :=
  Spends.clocked (exec_mkBitR b r s ▸ spends_bitTest b (.reg r))
    (by cases r <;> revert b <;> exact Fin.forall_eight rfl rfl rfl rfl rfl rfl rfl rfl)

theorem clocked_mkBitM : Clocked (.mkBitM b) s :=
  Spends.clocked (exec_mkBitM b s ▸ spends_bitTest b .indHl)
    (by revert b; exact Fin.forall_eight rfl rfl rfl rfl rfl rfl rfl rfl)

theorem clocked_mkResR : Clocked (.mkResR b r) s :=
  Spends.clocked (exec_mkResR b r s ▸ spends_bitReset b (.reg r))
    (by cases r <;> revert b <;> exact Fin.forall_eight rfl rfl rfl rfl rfl rfl rfl rfl)

theorem clocked_mkResM : Clocked (.mkResM b) s :=
  Spends.clocked (exec_mkResM b s ▸ spends_bitReset b .indHl)
    (by revert b; exact Fin.forall_eight rfl rfl rfl rfl rfl rfl rfl rfl)

theorem clocked_mkSetR : Clocked (.mkSetR b r) s :=
  Spends.clocked (exec_mkSetR b r s ▸ spends_bitSet b (.reg r))
    (by cases r <;> revert b <;> exact Fin.forall_eight rfl rfl rfl rfl rfl rfl rfl rfl)

theorem clocked_mkSetM : Clocked (.mkSetM b) s :=
  Spends.clocked (exec_mkSetM b s ▸ spends_bitSet b .indHl)
    (by revert b; exact Fin.forall_eight rfl rfl rfl rfl rfl rfl rfl rfl)

end

/-! ### Every instruction that is decoded (30_encoding.md R168 to R172) -/

section

variable (s : State) (y z : Nat) (n m : Byte)

theorem decodeExtended_clocked (op : Byte) : Clocked (decodeExtended op) s := by
  unfold decodeExtended
  split
  · exact clocked_mkRotR s _ _
  · exact clocked_mkRotM s _
  · exact clocked_mkBitR s _ _
  · exact clocked_mkBitM s _
  · exact clocked_mkResR s _ _
  · exact clocked_mkResM s _
  · exact clocked_mkSetR s _ _
  · exact clocked_mkSetM s _

theorem decodeGroup0_clocked : Clocked (decodeGroup0 y z n m) s := by
  unfold decodeGroup0
  split
  · split
    · exact ⟨_, rfl, rfl⟩
    · exact (spends_ldA16Sp (pairOf m n)).clocked rfl
    · exact ⟨_, rfl, rfl⟩
    · exact (spends_jr n).clocked rfl
    · exact clocked_mkJrCc s _ _
  · split
    · exact clocked_mkLdPair s _ _
    · exact clocked_mkAddHl s _
  · split
    · exact clocked_mkStA s _
    · exact clocked_mkLdA s _
  · split
    · exact clocked_mkIncPair s _
    · exact clocked_mkDecPair s _
  · split
    · exact clocked_mkInc s _
    · exact (spends_inc8 .indHl).clocked rfl
  · split
    · exact clocked_mkDec s _
    · exact (spends_dec8 .indHl).clocked rfl
  · split
    · exact clocked_mkLdImm s _ _
    · exact (spends_ld .indHl (.imm n)).clocked rfl
  · split
    · exact (spends_rotateA .rlc).clocked rfl
    · exact (spends_rotateA .rrc).clocked rfl
    · exact (spends_rotateA .rl).clocked rfl
    · exact (spends_rotateA .rr).clocked rfl
    · exact ⟨_, rfl, rfl⟩
    · exact ⟨_, rfl, rfl⟩
    · exact ⟨_, rfl, rfl⟩
    · exact ⟨_, rfl, rfl⟩

theorem decodeGroup1_clocked : Clocked (decodeGroup1 y z) s := by
  unfold decodeGroup1
  split
  · exact clocked_mkLdRR s _ _
  · exact clocked_mkLdM s _
  · exact clocked_mkLdMR s _
  · exact ⟨_, rfl, rfl⟩

theorem decodeGroup2_clocked : Clocked (decodeGroup2 y z) s := by
  unfold decodeGroup2
  split
  · exact clocked_mkAluR s _ _
  · exact clocked_mkAluM s _

theorem decodeGroup3_clocked : Clocked (decodeGroup3 y z n m) s := by
  unfold decodeGroup3
  split
  · split
    · exact (spends_ld (.high n) (.reg .a)).clocked rfl
    · exact (spends_addSp n).clocked rfl
    · exact (spends_ld (.reg .a) (.high n)).clocked rfl
    · exact (spends_ldHlSp n).clocked rfl
    · exact clocked_mkRetCc s _
  · split
    · exact spends_ret.clocked rfl
    · exact spends_reti.clocked rfl
    · exact ⟨_, rfl, rfl⟩
    · exact spends_ldSpHl.clocked rfl
    · exact clocked_mkPop s _
  · split
    · exact (spends_ld .highC (.reg .a)).clocked rfl
    · exact (spends_ld (.abs (pairOf m n)) (.reg .a)).clocked rfl
    · exact (spends_ld (.reg .a) .highC).clocked rfl
    · exact (spends_ld (.reg .a) (.abs (pairOf m n))).clocked rfl
    · exact clocked_mkJpCc s _ _
  · split
    · exact (spends_jp (pairOf m n)).clocked rfl
    · exact decodeExtended_clocked s n
    · exact ⟨_, rfl, rfl⟩
    · exact ⟨_, rfl, rfl⟩
    · exact ⟨_, rfl, rfl⟩
    · exact ⟨_, rfl, rfl⟩
    · exact ⟨_, rfl, rfl⟩
    · exact ⟨_, rfl, rfl⟩
  · split
    · exact ⟨_, rfl, rfl⟩
    · exact ⟨_, rfl, rfl⟩
    · exact ⟨_, rfl, rfl⟩
    · exact ⟨_, rfl, rfl⟩
    · exact clocked_mkCallCc s _ _
  · split
    · exact (spends_call (pairOf m n)).clocked rfl
    · exact ⟨_, rfl, rfl⟩
    · exact ⟨_, rfl, rfl⟩
    · exact ⟨_, rfl, rfl⟩
    · exact clocked_mkPush s _
  · exact clocked_mkAluImm s _ _
  · exact clocked_mkRst s _

theorem decodeOp_clocked (op : Byte) : Clocked (decodeOp op n m) s := by
  unfold decodeOp
  split
  · exact decodeGroup0_clocked s _ _ n m
  · exact decodeGroup1_clocked s _ _
  · exact decodeGroup2_clocked s _ _
  · exact decodeGroup3_clocked s _ _ n m

end

/-! ### The CPU step (60_exceptions.md R441, R442) -/

section

variable {s : State} {i : Instr} {rest : List Byte} (h : decode (fetchInstr s).1 = .ok (i, rest))

include h

/-- What a fetch decodes to is the row of its first byte. -/
theorem decode_fetchInstr_row : ∃ op n m, i = decodeOp op n m := by
  obtain ⟨hlen, hop, -⟩ := Settled.fetchReadsAtPc s _ rfl
  generalize readValue s.cpu.pc s = op at hlen hop
  generalize (fetchInstr s).1 = bs at h hlen hop
  match bs with
  | [] => cases hop
  | b :: bs =>
    cases hop
    rw [decode_whole op bs hlen] at h
    cases h
    exact ⟨op, _, _, rfl⟩

/-- The fetch charges 4 cycles for each byte of the instruction and leaves the flags (R586). -/
theorem fetchInstr_clock : (fetchInstr s).2.timer.cycles = s.timer.cycles + 4 * (encode i).length ∧
    (fetchInstr s).2.cpu.f = s.cpu.f := by
  obtain ⟨-, hop, -, -, hcpu, hclock, -⟩ := Settled.fetchReadsAtPc s _ rfl
  refine ⟨?_, by rw [hcpu]⟩
  rw [hclock]
  generalize readValue s.cpu.pc s = op at hop
  generalize (fetchInstr s).1 = bs at h hop
  match bs with
  | [] => cases hop
  | b :: bs =>
    cases hop
    rw [(decode_take h).1]

/-- The fetch and what the operation charges are the count of the table. -/
theorem cpuStep_clock {t : State} (hrun : s.cpu.halted = false) (ht : cpuStep s = .next t) :
    t.timer.cycles = s.timer.cycles + i.cycles s.cpu.f := by
  obtain ⟨hfetch, hf⟩ := fetchInstr_clock h
  obtain ⟨op, n, m, rfl⟩ := decode_fetchInstr_row h
  obtain ⟨u, hu, hclock⟩ := decodeOp_clocked (fetchInstr s).2 n m op
  rcases cpuStep_cases s with ⟨hhalted, -⟩ | ⟨-, j, v, hj, hv, hstep, -⟩
  · rw [hrun] at hhalted
    cases hhalted
  · rw [h] at hj
    cases hj
    rw [hv] at hu
    rw [hstep] at ht
    cases hu
    cases ht
    rw [hf] at hclock
    omega

end

/-! ### What a step adds to the clock (70_reset_and_hazards.md R587) -/

/-- A count that depends on a condition is within the bounds if both its values are. -/
theorem ite_range {c : Prop} [Decidable c] {m n : Nat} (hm : 4 ≤ m ∧ m ≤ 24) (hn : 4 ≤ n ∧ n ≤ 24) :
    4 ≤ (if c then m else n) ∧ (if c then m else n) ≤ 24 := by
  split
  · exact hm
  · exact hn

/-- No row of the table takes fewer cycles than the fetch of one byte or more than a taken call (R586). -/
theorem cycles_range (i : Instr) (f : Flags) : 4 ≤ i.cycles f ∧ i.cycles f ≤ 24 := by
  cases i with
  | jrNzR8 _ | jrZR8 _ | jrNcR8 _ | jrCR8 _ => exact ite_range (by decide) (by decide)
  | jpNzA16 _ | jpZA16 _ | jpNcA16 _ | jpCA16 _ => exact ite_range (by decide) (by decide)
  | callNzA16 _ | callZA16 _ | callNcA16 _ | callCA16 _ => exact ite_range (by decide) (by decide)
  | retNz | retZ | retNc | retC => exact ite_range (by decide) (by decide)
  | prefixCb _ => exact ite_range (ite_range (by decide) (by decide)) (by decide)
  | _ => exact ⟨Nat.le_of_ble_eq_true rfl, Nat.le_of_ble_eq_true rfl⟩

/-- The CPU step takes 4 cycles when halted, else those of an instruction. -/
theorem cpuStep_range {s t : State} (ht : cpuStep s = .next t) :
    s.timer.cycles + 4 ≤ t.timer.cycles ∧ t.timer.cycles ≤ s.timer.cycles + 24 := by
  rcases cpuStep_cases s with ⟨-, hstep⟩ | ⟨hrun, i, u, hdecode, -, -, -⟩
  · rw [hstep] at ht
    cases ht
    simp
  · have hrange := cycles_range i s.cpu.f
    rw [cpuStep_clock hdecode hrun ht]
    omega

/-- An entry takes 20 cycles: 8 before the push, 8 for it and 4 behind it (60_exceptions.md R416). -/
theorem enterInterrupt_clock (k : IrqKind) (s : State) :
    (enterInterrupt k s).timer.cycles = s.timer.cycles + 20 := by
  simp [enterInterrupt_eq]

/-- The dispatch takes 20 cycles if it redirects the CPU, else none (60_exceptions.md R416). -/
theorem dispatch_range (s : State) :
    s.timer.cycles ≤ (dispatch s).timer.cycles ∧ (dispatch s).timer.cycles ≤ s.timer.cycles + 20 := by
  rcases dispatch_cases s with e | ⟨k, -, -, e⟩ | ⟨k, -, -, e⟩ <;> rw [e]
  · omega
  · exact ⟨Nat.le_refl _, Nat.le_add_right _ _⟩
  · rw [enterInterrupt_clock]
    exact ⟨Nat.le_add_right _ _, Nat.le_refl _⟩

/-- The picture generator leaves the timer (61_devices.md R480). -/
@[simp] theorem finishStep_timer (s : State) : (finishStep s).timer = s.timer := by
  unfold finishStep
  split
  · rfl
  · exact (Paced.ppuStep _ s).timer

end Machine

namespace Settled

open Machine

/-- Settles O15: the fetch charges 4 cycles a byte, and each family of rows the rest of its count. -/
theorem instructionCycles : Obligations.InstructionCycles :=
  fun _ _ _ _ hrun hdecode ht => cpuStep_clock hdecode hrun ht

/-- Settles O16: the bounds of the dispatch and those of the CPU step, added. -/
theorem stepClockBounds : Obligations.StepClockBounds := by
  intro s t hin hs ht
  by_cases hsize : 256 < s.bootImage.length
  · rw [step_oversized s hsize] at ht
    cases ht
  · rcases step_cases s (Nat.le_of_not_lt hsize) with ⟨hb, -⟩ | ⟨-, u, hu, hstep⟩
    · exact absurd hs (by rwa [betweenSteps_nil s hin] at hb)
    · rw [hstep] at ht
      cases ht
      have hcpu := cpuStep_range hu
      rw [betweenSteps_nil s hin] at hcpu
      have hdispatch := dispatch_range s
      rw [finishStep_timer]
      omega

end Settled

end Sys2Proof
end
